-- ==== Sys2Proof/Word.lean ====
section
/-! DEFINITION. The word types of the family and the operand width W (R4, R5, R6). -/

namespace Sys2Proof

/-- A byte: the only unit of memory access (R40). -/
abbrev Byte := BitVec 8

/-- A 16-bit value: an offset, an `addr` operand, a register of the 65816. -/
abbrev Word := BitVec 16

/-- A full address. On the 65816 bits 23:16 are the bank; on the 6502 and 65C02 they are 0 (R9, R40). -/
abbrev Addr := BitVec 24

/-- The operand width W of R4. -/
inductive Width where
  | w8
  | w16
  deriving DecidableEq, Repr

/-- W as a number of bits. -/
abbrev Width.bits : Width → Nat
  | .w8 => 8
  | .w16 => 16

/-- `MSB = W - 1` (R4). -/
abbrev Width.msb (w : Width) : Nat := w.bits - 1

end Sys2Proof
end

