-- ==== Sys2Proof/Config.lean ====
section
/-! DEFINITION. What an implementation or a platform fixes: the processor, the plain-memory regions, and what a byte of
memory that nothing has written reads as. The spec leaves no instruction's result undefined, so there is no free value. -/

namespace Sys2Proof

/-- The parameter `cpu` of R3: which of the three processors the machine is. -/
inductive Cpu where
  | cpu6502
  | cpu65C02
  | cpu65816
  deriving DecidableEq, Repr

/-- The address width AW (R5, R40): 16 bits, or 24 on the 65816. -/
def Cpu.addrBits : Cpu → Nat
  | .cpu6502 => 16
  | .cpu65C02 => 16
  | .cpu65816 => 24

/-- A range of full addresses. A list of them is the parameter `mem_admit` of R46 (log entry 2). -/
structure Region where
  base : Nat
  size : Nat
  deriving DecidableEq, Repr

/-- The addresses of a region: `base` up to, not including, `base + size`. -/
def Region.holds (r : Region) (a : Nat) : Bool := r.base ≤ a && a < r.base + r.size

/-- What a byte that memory does not list reads as. DESIGN CHOICE, unsafe for a run from reset only: the spec gives memory
no launch contents (R30, R252); a state may list any contents (log entry 6). -/
def Config.unlistedByte : Byte := 0

end Sys2Proof
end

