-- ==== Sys2Proof/Syntax.lean ====
section
/-! DEFINITION. The instructions as syntax: the ten mnemonics, the sixteen addressing modes with their operands
(spec/40_addressing_modes.md), and `Instr`, one constructor per row of spec/opcode_table.json. -/

namespace Sys2Proof

/-- The ten mnemonics in scope (R2). -/
inductive Mnemonic where
  | AND | BIT | EOR | ORA | ASL | LSR | ROL | ROR | TRB | TSB
  deriving DecidableEq, Repr

/-- The sixteen addressing modes, by the mode ids of spec/40_addressing_modes.md (R85 to R100). -/
inductive Mode where
  | IMM | ABS | LONG | DP | DPIND | DPINDL | ABSX | LONGX | ABSY | DPX | DPXIND | DPINDY | DPINDLY | SR | SRINDY | ACC
  deriving DecidableEq, Repr

/-- An operand in memory: the mode with its operand bytes assembled (`b1`, `a16` or `a24` of R84). -/
inductive MemOperand where
  /-- `addr` (R86). -/
  | abs (a : Word)
  /-- `long` (R87). -/
  | long (a : Addr)
  /-- `dp` (R88). -/
  | dp (b : Byte)
  /-- `(dp)` (R89). -/
  | dpInd (b : Byte)
  /-- `[dp]` (R90). -/
  | dpIndL (b : Byte)
  /-- `addr,X` (R91). -/
  | absX (a : Word)
  /-- `long,X` (R92). -/
  | longX (a : Addr)
  /-- `addr,Y` (R93). -/
  | absY (a : Word)
  /-- `dp,X` (R94). -/
  | dpX (b : Byte)
  /-- `(dp,X)` (R95). -/
  | dpXInd (b : Byte)
  /-- `(dp),Y` (R96). -/
  | dpIndY (b : Byte)
  /-- `[dp],Y` (R97). -/
  | dpIndLY (b : Byte)
  /-- `sr,S` (R98). -/
  | sr (b : Byte)
  /-- `(sr,S),Y` (R99). -/
  | srIndY (b : Byte)
  deriving DecidableEq, Repr

/-- The operand of an instruction: the accumulator (R100), a constant (R85), or an operand in memory.
The constant is held in 16 bits; when W = 8 only its low byte is in the instruction (log entry 32). -/
inductive Operand where
  | acc
  | imm (k : Word)
  | mem (m : MemOperand)
  deriving DecidableEq, Repr

/-- The 74 instructions, in the order of spec/opcode_table.json (R67). `k` is a `#const` constant, `a` an `addr` or
`long` address, `b` a `dp` or `sr` offset. -/
inductive Instr where
  /-- `AND #const`, opcode 0x29 (R121). -/
  | andImm (k : Word)
  /-- `AND addr`, opcode 0x2D (R122). -/
  | andAbs (a : Word)
  /-- `AND long`, opcode 0x2F (R123). -/
  | andLong (a : Addr)
  /-- `AND dp`, opcode 0x25 (R124). -/
  | andDp (b : Byte)
  /-- `AND (dp)`, opcode 0x32 (R125). -/
  | andDpInd (b : Byte)
  /-- `AND [dp]`, opcode 0x27 (R126). -/
  | andDpIndL (b : Byte)
  /-- `AND addr,X`, opcode 0x3D (R127). -/
  | andAbsX (a : Word)
  /-- `AND long,X`, opcode 0x3F (R128). -/
  | andLongX (a : Addr)
  /-- `AND addr,Y`, opcode 0x39 (R129). -/
  | andAbsY (a : Word)
  /-- `AND dp,X`, opcode 0x35 (R130). -/
  | andDpX (b : Byte)
  /-- `AND (dp,X)`, opcode 0x21 (R131). -/
  | andDpXInd (b : Byte)
  /-- `AND (dp),Y`, opcode 0x31 (R132). -/
  | andDpIndY (b : Byte)
  /-- `AND [dp],Y`, opcode 0x37 (R133). -/
  | andDpIndLY (b : Byte)
  /-- `AND sr,S`, opcode 0x23 (R134). -/
  | andSr (b : Byte)
  /-- `AND (sr,S),Y`, opcode 0x33 (R135). -/
  | andSrIndY (b : Byte)
  /-- `BIT #const`, opcode 0x89 (R141). -/
  | bitImm (k : Word)
  /-- `BIT addr`, opcode 0x2C (R142). -/
  | bitAbs (a : Word)
  /-- `BIT dp`, opcode 0x24 (R143). -/
  | bitDp (b : Byte)
  /-- `BIT addr,X`, opcode 0x3C (R144). -/
  | bitAbsX (a : Word)
  /-- `BIT dp,X`, opcode 0x34 (R145). -/
  | bitDpX (b : Byte)
  /-- `EOR #const`, opcode 0x49 (R151). -/
  | eorImm (k : Word)
  /-- `EOR addr`, opcode 0x4D (R152). -/
  | eorAbs (a : Word)
  /-- `EOR long`, opcode 0x4F (R153). -/
  | eorLong (a : Addr)
  /-- `EOR dp`, opcode 0x45 (R154). -/
  | eorDp (b : Byte)
  /-- `EOR (dp)`, opcode 0x52 (R155). -/
  | eorDpInd (b : Byte)
  /-- `EOR [dp]`, opcode 0x47 (R156). -/
  | eorDpIndL (b : Byte)
  /-- `EOR addr,X`, opcode 0x5D (R157). -/
  | eorAbsX (a : Word)
  /-- `EOR long,X`, opcode 0x5F (R158). -/
  | eorLongX (a : Addr)
  /-- `EOR addr,Y`, opcode 0x59 (R159). -/
  | eorAbsY (a : Word)
  /-- `EOR dp,X`, opcode 0x55 (R160). -/
  | eorDpX (b : Byte)
  /-- `EOR (dp,X)`, opcode 0x41 (R161). -/
  | eorDpXInd (b : Byte)
  /-- `EOR (dp),Y`, opcode 0x51 (R162). -/
  | eorDpIndY (b : Byte)
  /-- `EOR [dp],Y`, opcode 0x57 (R163). -/
  | eorDpIndLY (b : Byte)
  /-- `EOR sr,S`, opcode 0x43 (R164). -/
  | eorSr (b : Byte)
  /-- `EOR (sr,S),Y`, opcode 0x53 (R165). -/
  | eorSrIndY (b : Byte)
  /-- `ORA #const`, opcode 0x09 (R171). -/
  | oraImm (k : Word)
  /-- `ORA addr`, opcode 0x0D (R172). -/
  | oraAbs (a : Word)
  /-- `ORA long`, opcode 0x0F (R173). -/
  | oraLong (a : Addr)
  /-- `ORA dp`, opcode 0x05 (R174). -/
  | oraDp (b : Byte)
  /-- `ORA (dp)`, opcode 0x12 (R175). -/
  | oraDpInd (b : Byte)
  /-- `ORA [dp]`, opcode 0x07 (R176). -/
  | oraDpIndL (b : Byte)
  /-- `ORA addr,X`, opcode 0x1D (R177). -/
  | oraAbsX (a : Word)
  /-- `ORA long,X`, opcode 0x1F (R178). -/
  | oraLongX (a : Addr)
  /-- `ORA addr,Y`, opcode 0x19 (R179). -/
  | oraAbsY (a : Word)
  /-- `ORA dp,X`, opcode 0x15 (R180). -/
  | oraDpX (b : Byte)
  /-- `ORA (dp,X)`, opcode 0x01 (R181). -/
  | oraDpXInd (b : Byte)
  /-- `ORA (dp),Y`, opcode 0x11 (R182). -/
  | oraDpIndY (b : Byte)
  /-- `ORA [dp],Y`, opcode 0x17 (R183). -/
  | oraDpIndLY (b : Byte)
  /-- `ORA sr,S`, opcode 0x03 (R184). -/
  | oraSr (b : Byte)
  /-- `ORA (sr,S),Y`, opcode 0x13 (R185). -/
  | oraSrIndY (b : Byte)
  /-- `ASL A`, opcode 0x0A (R195). -/
  | aslAcc
  /-- `ASL addr`, opcode 0x0E (R196). -/
  | aslAbs (a : Word)
  /-- `ASL dp`, opcode 0x06 (R197). -/
  | aslDp (b : Byte)
  /-- `ASL addr,X`, opcode 0x1E (R198). -/
  | aslAbsX (a : Word)
  /-- `ASL dp,X`, opcode 0x16 (R199). -/
  | aslDpX (b : Byte)
  /-- `LSR A`, opcode 0x4A (R200). -/
  | lsrAcc
  /-- `LSR addr`, opcode 0x4E (R201). -/
  | lsrAbs (a : Word)
  /-- `LSR dp`, opcode 0x46 (R202). -/
  | lsrDp (b : Byte)
  /-- `LSR addr,X`, opcode 0x5E (R203). -/
  | lsrAbsX (a : Word)
  /-- `LSR dp,X`, opcode 0x56 (R204). -/
  | lsrDpX (b : Byte)
  /-- `ROL A`, opcode 0x2A (R205). -/
  | rolAcc
  /-- `ROL addr`, opcode 0x2E (R206). -/
  | rolAbs (a : Word)
  /-- `ROL dp`, opcode 0x26 (R207). -/
  | rolDp (b : Byte)
  /-- `ROL addr,X`, opcode 0x3E (R208). -/
  | rolAbsX (a : Word)
  /-- `ROL dp,X`, opcode 0x36 (R209). -/
  | rolDpX (b : Byte)
  /-- `ROR A`, opcode 0x6A (R210). -/
  | rorAcc
  /-- `ROR addr`, opcode 0x6E (R211). -/
  | rorAbs (a : Word)
  /-- `ROR dp`, opcode 0x66 (R212). -/
  | rorDp (b : Byte)
  /-- `ROR addr,X`, opcode 0x7E (R213). -/
  | rorAbsX (a : Word)
  /-- `ROR dp,X`, opcode 0x76 (R214). -/
  | rorDpX (b : Byte)
  /-- `TRB addr`, opcode 0x1C (R221). -/
  | trbAbs (a : Word)
  /-- `TRB dp`, opcode 0x14 (R222). -/
  | trbDp (b : Byte)
  /-- `TSB addr`, opcode 0x0C (R223). -/
  | tsbAbs (a : Word)
  /-- `TSB dp`, opcode 0x04 (R224). -/
  | tsbDp (b : Byte)
  deriving DecidableEq, Repr

end Sys2Proof
end

