-- ==== Sys2Proof/WellFormed.lean ====
section
/-! DEFINITION. When an instruction can be encoded at a width: the one check is on the constant of a `#const` form.
Every other operand field fills its bytes exactly (R62). -/

namespace Sys2Proof

/-- The constant of a `#const` form is W bits wide (R65, R85): when W = 8 its high byte is 0 (log entry 32). -/
def constFits : Width → Word → Bool
  | .w8, k => k.toNat < 256
  | .w16, _ => true

/-- Well-formed at operand width `w`: a `#const` constant fits in W bits. -/
def Instr.wellFormed (w : Width) : Instr → Bool
  | .andImm k | .bitImm k | .eorImm k | .oraImm k => constFits w k
  | .andAbs _ | .andLong _ | .andDp _ | .andDpInd _ | .andDpIndL _ | .andAbsX _ | .andLongX _ | .andAbsY _
  | .andDpX _ | .andDpXInd _ | .andDpIndY _ | .andDpIndLY _ | .andSr _ | .andSrIndY _ | .bitAbs _ | .bitDp _
  | .bitAbsX _ | .bitDpX _ | .eorAbs _ | .eorLong _ | .eorDp _ | .eorDpInd _ | .eorDpIndL _ | .eorAbsX _
  | .eorLongX _ | .eorAbsY _ | .eorDpX _ | .eorDpXInd _ | .eorDpIndY _ | .eorDpIndLY _ | .eorSr _
  | .eorSrIndY _ | .oraAbs _ | .oraLong _ | .oraDp _ | .oraDpInd _ | .oraDpIndL _ | .oraAbsX _ | .oraLongX _
  | .oraAbsY _ | .oraDpX _ | .oraDpXInd _ | .oraDpIndY _ | .oraDpIndLY _ | .oraSr _ | .oraSrIndY _ | .aslAcc
  | .aslAbs _ | .aslDp _ | .aslAbsX _ | .aslDpX _ | .lsrAcc | .lsrAbs _ | .lsrDp _ | .lsrAbsX _ | .lsrDpX _
  | .rolAcc | .rolAbs _ | .rolDp _ | .rolAbsX _ | .rolDpX _ | .rorAcc | .rorAbs _ | .rorDp _ | .rorAbsX _
  | .rorDpX _ | .trbAbs _ | .trbDp _ | .tsbAbs _ | .tsbDp _ => true

end Sys2Proof
end

