-- ==== Sys2Proof/Decode.lean ====
section
/-! DEFINITION. From bytes to instructions and back (spec/30_encoding.md): the opcode map R67 as a decoder and as an
encoder, lengths (R63), availability (R66), and the host's `decodeTableWord`. -/

namespace Sys2Proof

/-! ### What a row of the opcode map says of an instruction -/

/-- The mnemonic of the row. -/
def Instr.mnemonic : Instr → Mnemonic
  | .andImm _ | .andAbs _ | .andLong _ | .andDp _ | .andDpInd _ | .andDpIndL _ | .andAbsX _ | .andLongX _
  | .andAbsY _ | .andDpX _ | .andDpXInd _ | .andDpIndY _ | .andDpIndLY _ | .andSr _ | .andSrIndY _ => .AND
  | .bitImm _ | .bitAbs _ | .bitDp _ | .bitAbsX _ | .bitDpX _ => .BIT
  | .eorImm _ | .eorAbs _ | .eorLong _ | .eorDp _ | .eorDpInd _ | .eorDpIndL _ | .eorAbsX _ | .eorLongX _
  | .eorAbsY _ | .eorDpX _ | .eorDpXInd _ | .eorDpIndY _ | .eorDpIndLY _ | .eorSr _ | .eorSrIndY _ => .EOR
  | .oraImm _ | .oraAbs _ | .oraLong _ | .oraDp _ | .oraDpInd _ | .oraDpIndL _ | .oraAbsX _ | .oraLongX _
  | .oraAbsY _ | .oraDpX _ | .oraDpXInd _ | .oraDpIndY _ | .oraDpIndLY _ | .oraSr _ | .oraSrIndY _ => .ORA
  | .aslAcc | .aslAbs _ | .aslDp _ | .aslAbsX _ | .aslDpX _ => .ASL
  | .lsrAcc | .lsrAbs _ | .lsrDp _ | .lsrAbsX _ | .lsrDpX _ => .LSR
  | .rolAcc | .rolAbs _ | .rolDp _ | .rolAbsX _ | .rolDpX _ => .ROL
  | .rorAcc | .rorAbs _ | .rorDp _ | .rorAbsX _ | .rorDpX _ => .ROR
  | .trbAbs _ | .trbDp _ => .TRB
  | .tsbAbs _ | .tsbDp _ => .TSB

/-- The operand, by the row's mode (R67, column "Mode"). -/
def Instr.operand : Instr → Operand
  | .andImm k => .imm k
  | .andAbs a => .mem (.abs a)
  | .andLong a => .mem (.long a)
  | .andDp b => .mem (.dp b)
  | .andDpInd b => .mem (.dpInd b)
  | .andDpIndL b => .mem (.dpIndL b)
  | .andAbsX a => .mem (.absX a)
  | .andLongX a => .mem (.longX a)
  | .andAbsY a => .mem (.absY a)
  | .andDpX b => .mem (.dpX b)
  | .andDpXInd b => .mem (.dpXInd b)
  | .andDpIndY b => .mem (.dpIndY b)
  | .andDpIndLY b => .mem (.dpIndLY b)
  | .andSr b => .mem (.sr b)
  | .andSrIndY b => .mem (.srIndY b)
  | .bitImm k => .imm k
  | .bitAbs a => .mem (.abs a)
  | .bitDp b => .mem (.dp b)
  | .bitAbsX a => .mem (.absX a)
  | .bitDpX b => .mem (.dpX b)
  | .eorImm k => .imm k
  | .eorAbs a => .mem (.abs a)
  | .eorLong a => .mem (.long a)
  | .eorDp b => .mem (.dp b)
  | .eorDpInd b => .mem (.dpInd b)
  | .eorDpIndL b => .mem (.dpIndL b)
  | .eorAbsX a => .mem (.absX a)
  | .eorLongX a => .mem (.longX a)
  | .eorAbsY a => .mem (.absY a)
  | .eorDpX b => .mem (.dpX b)
  | .eorDpXInd b => .mem (.dpXInd b)
  | .eorDpIndY b => .mem (.dpIndY b)
  | .eorDpIndLY b => .mem (.dpIndLY b)
  | .eorSr b => .mem (.sr b)
  | .eorSrIndY b => .mem (.srIndY b)
  | .oraImm k => .imm k
  | .oraAbs a => .mem (.abs a)
  | .oraLong a => .mem (.long a)
  | .oraDp b => .mem (.dp b)
  | .oraDpInd b => .mem (.dpInd b)
  | .oraDpIndL b => .mem (.dpIndL b)
  | .oraAbsX a => .mem (.absX a)
  | .oraLongX a => .mem (.longX a)
  | .oraAbsY a => .mem (.absY a)
  | .oraDpX b => .mem (.dpX b)
  | .oraDpXInd b => .mem (.dpXInd b)
  | .oraDpIndY b => .mem (.dpIndY b)
  | .oraDpIndLY b => .mem (.dpIndLY b)
  | .oraSr b => .mem (.sr b)
  | .oraSrIndY b => .mem (.srIndY b)
  | .aslAcc => .acc
  | .aslAbs a => .mem (.abs a)
  | .aslDp b => .mem (.dp b)
  | .aslAbsX a => .mem (.absX a)
  | .aslDpX b => .mem (.dpX b)
  | .lsrAcc => .acc
  | .lsrAbs a => .mem (.abs a)
  | .lsrDp b => .mem (.dp b)
  | .lsrAbsX a => .mem (.absX a)
  | .lsrDpX b => .mem (.dpX b)
  | .rolAcc => .acc
  | .rolAbs a => .mem (.abs a)
  | .rolDp b => .mem (.dp b)
  | .rolAbsX a => .mem (.absX a)
  | .rolDpX b => .mem (.dpX b)
  | .rorAcc => .acc
  | .rorAbs a => .mem (.abs a)
  | .rorDp b => .mem (.dp b)
  | .rorAbsX a => .mem (.absX a)
  | .rorDpX b => .mem (.dpX b)
  | .trbAbs a => .mem (.abs a)
  | .trbDp b => .mem (.dp b)
  | .tsbAbs a => .mem (.abs a)
  | .tsbDp b => .mem (.dp b)

/-- The opcode byte (R67, column "Opcode"). -/
def Instr.opcode : Instr → Byte
  | .andImm _ => 0x29
  | .andAbs _ => 0x2D
  | .andLong _ => 0x2F
  | .andDp _ => 0x25
  | .andDpInd _ => 0x32
  | .andDpIndL _ => 0x27
  | .andAbsX _ => 0x3D
  | .andLongX _ => 0x3F
  | .andAbsY _ => 0x39
  | .andDpX _ => 0x35
  | .andDpXInd _ => 0x21
  | .andDpIndY _ => 0x31
  | .andDpIndLY _ => 0x37
  | .andSr _ => 0x23
  | .andSrIndY _ => 0x33
  | .bitImm _ => 0x89
  | .bitAbs _ => 0x2C
  | .bitDp _ => 0x24
  | .bitAbsX _ => 0x3C
  | .bitDpX _ => 0x34
  | .eorImm _ => 0x49
  | .eorAbs _ => 0x4D
  | .eorLong _ => 0x4F
  | .eorDp _ => 0x45
  | .eorDpInd _ => 0x52
  | .eorDpIndL _ => 0x47
  | .eorAbsX _ => 0x5D
  | .eorLongX _ => 0x5F
  | .eorAbsY _ => 0x59
  | .eorDpX _ => 0x55
  | .eorDpXInd _ => 0x41
  | .eorDpIndY _ => 0x51
  | .eorDpIndLY _ => 0x57
  | .eorSr _ => 0x43
  | .eorSrIndY _ => 0x53
  | .oraImm _ => 0x09
  | .oraAbs _ => 0x0D
  | .oraLong _ => 0x0F
  | .oraDp _ => 0x05
  | .oraDpInd _ => 0x12
  | .oraDpIndL _ => 0x07
  | .oraAbsX _ => 0x1D
  | .oraLongX _ => 0x1F
  | .oraAbsY _ => 0x19
  | .oraDpX _ => 0x15
  | .oraDpXInd _ => 0x01
  | .oraDpIndY _ => 0x11
  | .oraDpIndLY _ => 0x17
  | .oraSr _ => 0x03
  | .oraSrIndY _ => 0x13
  | .aslAcc => 0x0A
  | .aslAbs _ => 0x0E
  | .aslDp _ => 0x06
  | .aslAbsX _ => 0x1E
  | .aslDpX _ => 0x16
  | .lsrAcc => 0x4A
  | .lsrAbs _ => 0x4E
  | .lsrDp _ => 0x46
  | .lsrAbsX _ => 0x5E
  | .lsrDpX _ => 0x56
  | .rolAcc => 0x2A
  | .rolAbs _ => 0x2E
  | .rolDp _ => 0x26
  | .rolAbsX _ => 0x3E
  | .rolDpX _ => 0x36
  | .rorAcc => 0x6A
  | .rorAbs _ => 0x6E
  | .rorDp _ => 0x66
  | .rorAbsX _ => 0x7E
  | .rorDpX _ => 0x76
  | .trbAbs _ => 0x1C
  | .trbDp _ => 0x14
  | .tsbAbs _ => 0x0C
  | .tsbDp _ => 0x04

/-- Three marks in the source's table: all three processors (R66). -/
def allCpus : List Cpu := [.cpu6502, .cpu65C02, .cpu65816]

/-- Two marks: the 65C02 and the 65816 (R66; that the other is the 65C02 is GK2, log entry 12). -/
def cmosCpus : List Cpu := [.cpu65C02, .cpu65816]

/-- One mark: the 65816 only (R66). -/
def only65816 : List Cpu := [.cpu65816]

/-- The processors that have the instruction (R66, R67, column "CPUs"). -/
def Instr.cpus : Instr → List Cpu
  | .andImm _ | .andAbs _ | .andDp _ | .andAbsX _ | .andAbsY _ | .andDpX _ | .andDpXInd _ | .andDpIndY _
  | .bitAbs _ | .bitDp _ | .eorImm _ | .eorAbs _ | .eorDp _ | .eorAbsX _ | .eorAbsY _ | .eorDpX _
  | .eorDpXInd _ | .eorDpIndY _ | .oraImm _ | .oraAbs _ | .oraDp _ | .oraAbsX _ | .oraAbsY _ | .oraDpX _
  | .oraDpXInd _ | .oraDpIndY _ | .aslAcc | .aslAbs _ | .aslDp _ | .aslAbsX _ | .aslDpX _ | .lsrAcc | .lsrAbs _
  | .lsrDp _ | .lsrAbsX _ | .lsrDpX _ | .rolAcc | .rolAbs _ | .rolDp _ | .rolAbsX _ | .rolDpX _ | .rorAcc
  | .rorAbs _ | .rorDp _ | .rorAbsX _ | .rorDpX _ => allCpus
  | .andDpInd _ | .bitImm _ | .bitAbsX _ | .bitDpX _ | .eorDpInd _ | .oraDpInd _ | .trbAbs _ | .trbDp _
  | .tsbAbs _ | .tsbDp _ => cmosCpus
  | .andLong _ | .andDpIndL _ | .andLongX _ | .andDpIndLY _ | .andSr _ | .andSrIndY _ | .eorLong _
  | .eorDpIndL _ | .eorLongX _ | .eorDpIndLY _ | .eorSr _ | .eorSrIndY _ | .oraLong _ | .oraDpIndL _
  | .oraLongX _ | .oraDpIndLY _ | .oraSr _ | .oraSrIndY _ => only65816

/-- The mode id of an operand (R85 to R100). -/
def Operand.mode : Operand → Mode
  | .acc => .ACC
  | .imm _ => .IMM
  | .mem (.abs _) => .ABS
  | .mem (.long _) => .LONG
  | .mem (.dp _) => .DP
  | .mem (.dpInd _) => .DPIND
  | .mem (.dpIndL _) => .DPINDL
  | .mem (.absX _) => .ABSX
  | .mem (.longX _) => .LONGX
  | .mem (.absY _) => .ABSY
  | .mem (.dpX _) => .DPX
  | .mem (.dpXInd _) => .DPXIND
  | .mem (.dpIndY _) => .DPINDY
  | .mem (.dpIndLY _) => .DPINDLY
  | .mem (.sr _) => .SR
  | .mem (.srIndY _) => .SRINDY

/-- How many bytes follow the opcode (R62, R63): only a constant's count depends on W. -/
def Operand.byteCount (w : Width) : Operand → Nat
  | .acc => 0
  | .imm _ => match w with
    | .w8 => 1
    | .w16 => 2
  | .mem (.abs _) | .mem (.absX _) | .mem (.absY _) => 2
  | .mem (.long _) | .mem (.longX _) => 3
  | .mem (.dp _) | .mem (.dpInd _) | .mem (.dpIndL _) | .mem (.dpX _) | .mem (.dpXInd _) | .mem (.dpIndY _)
  | .mem (.dpIndLY _) | .mem (.sr _) | .mem (.srIndY _) => 1

/-- `len` of R63: the opcode byte and the operand bytes. -/
def Instr.length (w : Width) (i : Instr) : Nat := 1 + i.operand.byteCount w

/-! ### Assembling operand bytes (R84; little-endian R41, log entry 9) -/

/-- `a16 = Fetch8(2) : Fetch8(1)`. -/
def assemble16 (b1 b2 : Byte) : Word := b2 ++ b1

/-- `a24 = Fetch8(3) : Fetch8(2) : Fetch8(1)`. -/
def assemble24 (b1 b2 b3 : Byte) : Addr := b3 ++ b2 ++ b1

/-- The W-bit constant (R81, case IMM), held in 16 bits. -/
def assembleConst (w : Width) (b1 b2 : Byte) : Word :=
  match w with
  | .w8 => b1.setWidth 16
  | .w16 => assemble16 b1 b2

/-- Byte `k` of a value, counting from its least significant byte (R41). -/
def byteOf {n : Nat} (k : Nat) (v : BitVec n) : Byte := v.extractLsb' (8 * k) 8

/-! ### Decoding -/

/-- Why bytes hold no instruction: the opcode byte is not one of the 74 (R69), or the bytes end too early. -/
inductive DecodeError where
  | unknownOpcode (op : Byte)
  | truncated
  deriving DecidableEq, Repr

/-- The opcode map R67 read as a decoder: the instruction whose opcode byte is `op`, with the operand bytes that follow. -/
def instrOf (w : Width) (op b1 b2 b3 : Byte) : Option Instr :=
  let k := assembleConst w b1 b2
  let a16 := assemble16 b1 b2
  let a24 := assemble24 b1 b2 b3
  match op.toNat with
  | 0x29 => some (.andImm k)
  | 0x2D => some (.andAbs a16)
  | 0x2F => some (.andLong a24)
  | 0x25 => some (.andDp b1)
  | 0x32 => some (.andDpInd b1)
  | 0x27 => some (.andDpIndL b1)
  | 0x3D => some (.andAbsX a16)
  | 0x3F => some (.andLongX a24)
  | 0x39 => some (.andAbsY a16)
  | 0x35 => some (.andDpX b1)
  | 0x21 => some (.andDpXInd b1)
  | 0x31 => some (.andDpIndY b1)
  | 0x37 => some (.andDpIndLY b1)
  | 0x23 => some (.andSr b1)
  | 0x33 => some (.andSrIndY b1)
  | 0x89 => some (.bitImm k)
  | 0x2C => some (.bitAbs a16)
  | 0x24 => some (.bitDp b1)
  | 0x3C => some (.bitAbsX a16)
  | 0x34 => some (.bitDpX b1)
  | 0x49 => some (.eorImm k)
  | 0x4D => some (.eorAbs a16)
  | 0x4F => some (.eorLong a24)
  | 0x45 => some (.eorDp b1)
  | 0x52 => some (.eorDpInd b1)
  | 0x47 => some (.eorDpIndL b1)
  | 0x5D => some (.eorAbsX a16)
  | 0x5F => some (.eorLongX a24)
  | 0x59 => some (.eorAbsY a16)
  | 0x55 => some (.eorDpX b1)
  | 0x41 => some (.eorDpXInd b1)
  | 0x51 => some (.eorDpIndY b1)
  | 0x57 => some (.eorDpIndLY b1)
  | 0x43 => some (.eorSr b1)
  | 0x53 => some (.eorSrIndY b1)
  | 0x09 => some (.oraImm k)
  | 0x0D => some (.oraAbs a16)
  | 0x0F => some (.oraLong a24)
  | 0x05 => some (.oraDp b1)
  | 0x12 => some (.oraDpInd b1)
  | 0x07 => some (.oraDpIndL b1)
  | 0x1D => some (.oraAbsX a16)
  | 0x1F => some (.oraLongX a24)
  | 0x19 => some (.oraAbsY a16)
  | 0x15 => some (.oraDpX b1)
  | 0x01 => some (.oraDpXInd b1)
  | 0x11 => some (.oraDpIndY b1)
  | 0x17 => some (.oraDpIndLY b1)
  | 0x03 => some (.oraSr b1)
  | 0x13 => some (.oraSrIndY b1)
  | 0x0A => some .aslAcc
  | 0x0E => some (.aslAbs a16)
  | 0x06 => some (.aslDp b1)
  | 0x1E => some (.aslAbsX a16)
  | 0x16 => some (.aslDpX b1)
  | 0x4A => some .lsrAcc
  | 0x4E => some (.lsrAbs a16)
  | 0x46 => some (.lsrDp b1)
  | 0x5E => some (.lsrAbsX a16)
  | 0x56 => some (.lsrDpX b1)
  | 0x2A => some .rolAcc
  | 0x2E => some (.rolAbs a16)
  | 0x26 => some (.rolDp b1)
  | 0x3E => some (.rolAbsX a16)
  | 0x36 => some (.rolDpX b1)
  | 0x6A => some .rorAcc
  | 0x6E => some (.rorAbs a16)
  | 0x66 => some (.rorDp b1)
  | 0x7E => some (.rorAbsX a16)
  | 0x76 => some (.rorDpX b1)
  | 0x1C => some (.trbAbs a16)
  | 0x14 => some (.trbDp b1)
  | 0x0C => some (.tsbAbs a16)
  | 0x04 => some (.tsbDp b1)
  | _ => none

/-- Decode the instruction at the front of a byte list and give the bytes after it. Total; the width is the mode bit
that changes decoding (R70). -/
def decode (w : Width) : List Byte → Except DecodeError (Instr × List Byte)
  | [] => .error .truncated
  | op :: rest =>
    match instrOf w op (rest.getD 0 0) (rest.getD 1 0) (rest.getD 2 0) with
    | none => .error (.unknownOpcode op)
    | some i =>
      if rest.length < i.operand.byteCount w then .error .truncated
      else .ok (i, rest.drop (i.operand.byteCount w))

/-! ### Encoding -/

/-- The operand bytes, low byte first (R62, R65). -/
def Operand.bytes (w : Width) : Operand → List Byte
  | .acc => []
  | .imm k => match w with
    | .w8 => [byteOf 0 k]
    | .w16 => [byteOf 0 k, byteOf 1 k]
  | .mem (.abs a) | .mem (.absX a) | .mem (.absY a) => [byteOf 0 a, byteOf 1 a]
  | .mem (.long a) | .mem (.longX a) => [byteOf 0 a, byteOf 1 a, byteOf 2 a]
  | .mem (.dp b) | .mem (.dpInd b) | .mem (.dpIndL b) | .mem (.dpX b) | .mem (.dpXInd b) | .mem (.dpIndY b)
  | .mem (.dpIndLY b) | .mem (.sr b) | .mem (.srIndY b) => [b]

/-- The bytes of an instruction: the opcode byte, then the operand bytes (R60, R62). -/
def encode (w : Width) (i : Instr) : List Byte := i.opcode :: i.operand.bytes w

/-! ### The host's view of a table row -/

/-- The four bytes of an instruction numbered as spec/opcode_table.json numbers bits: byte 0 is bits 7..0, and every
bit from `nbits` up is 0. -/
def tableBytes (nbits w : Nat) : List Byte :=
  let v := w % 2 ^ nbits
  [BitVec.ofNat 8 v, BitVec.ofNat 8 (v / 2 ^ 8), BitVec.ofNat 8 (v / 2 ^ 16), BitVec.ofNat 8 (v / 2 ^ 24)]

/-- The instruction the decoder reads from those bytes, at W = 8: the table gives the lengths for W = 8, and the reset
state has W = 8 (log entry 34). -/
def decodeTableWord (nbits w : Nat) : Option Instr :=
  match decode .w8 (tableBytes nbits w) with
  | .ok (i, _) => some i
  | .error _ => none

end Sys2Proof
end

