-- ==== Sys2Proof/Machine/State.lean ====
section
/-! DEFINITION. The machine's state as plain data (spec/10_state.md), the reasons a step can stop (R245), and the state
the model calls reset. -/

namespace Sys2Proof.Machine

/-- `Mem` (R28, R40): (address, byte) pairs in canonical form, see `Memory.wf`. An unlisted address reads as
`Config.unlistedByte`. -/
abbrev Memory := List Host.Cell

/-- The canonical form above an address: addresses strictly rising from `lo` on, no entry equal to the unlisted byte. -/
def Memory.wfFrom (lo : Nat) : Memory → Bool
  | [] => true
  | c :: m => lo ≤ c.1 && c.2 != Config.unlistedByte && Memory.wfFrom (c.1 + 1) m

/-- The canonical form of memory: equal memories are equal lists. -/
def Memory.wf (m : Memory) : Bool := Memory.wfFrom 0 m

/-- A step never faults: "There is no fault outcome" (R245, R230). The type has no constructor. -/
inductive Fault where
  deriving DecidableEq, Repr

/-- The reasons a step is refused: the closed list of R245, and the host's `notModelled`. Each is safe: nothing can be
proved of the run beyond it. -/
inductive Refusal where
  /-- Raised by no arm of `exec`: every instruction has its meaning. Safe. -/
  | notModelled (mnemonic : String)
  /-- Raised by the fetch: the opcode byte is not one of the 74 (R69, D3). Safe. -/
  | unknownOpcode (op : Byte)
  /-- Raised by the fetch and by every meaning: the processor does not have the instruction (R66, R69, D4). Safe. -/
  | notAvailableOnCpu (op : Byte) (cpu : Cpu)
  /-- Raised by the fetch and by every meaning: an address fetched, read or written is outside `mem_admit` (R46, D17). Safe. -/
  | memNotAdmitted (a : Addr)
  /-- Raised by the fetch and by every meaning: the 65816 is in emulation mode (R103, D8). Safe. -/
  | emulationMode
  deriving DecidableEq, Repr

/-- The state (R10 to R28). The register fields are as wide as on the 65816; on the 6502 and 65C02 the registers `A`, `X`,
`Y`, `S` are their low bytes, and `D`, `DBR`, `PBR`, `e` do not exist (log entry 8; `State.wf` says those bits are 0). -/
structure State where
  /-- `cpu` (R3). A parameter, fixed for the run. -/
  cpu : Cpu
  /-- `mem_admit` (R46). A parameter, fixed for the run. -/
  memAdmit : List Region
  /-- The 65816's emulation flag (R26, R103). -/
  e : Bool
  /-- The accumulator (R10). -/
  a : Word
  /-- Index register X (R12). -/
  x : Word
  /-- Index register Y (R12). -/
  y : Word
  /-- The stack pointer S (R13). -/
  sp : Word
  /-- The Direct Page register D (R14). -/
  d : Word
  /-- The data bank register (R15). -/
  dbr : Byte
  /-- The program bank register (R15). -/
  pbr : Byte
  /-- The program counter (R16). -/
  pc : Word
  /-- The status register P (R18): n v . . . . z c, with m at bit 5 and x at bit 4 on the 65816 (R20, R25). -/
  p : Byte
  /-- Memory (R28). -/
  mem : Memory
  deriving DecidableEq, Repr

/-- The state the model calls reset. The spec gives no reset value (R30, R250): every value here is the model's, by log
entries 1 to 6. No statement rests on one: claims quantify over launch states (R252). -/
def State.reset : State where
  cpu := .cpu65816
  memAdmit := [⟨0, 2 ^ 24⟩]
  e := false
  a := 0
  x := 0
  y := 0
  sp := 0x0100
  d := 0
  dbr := 0
  pbr := 0
  pc := 0
  p := 0x34
  mem := []

end Sys2Proof.Machine
end

