-- ==== Sys2Proof/Machine/Ops.lean ====
section
/-! DEFINITION. The named operations over registers and memory: the width W, the accumulator operand, bytes of memory,
admitted addresses, the advance of `PC`, and the guard every meaning stands behind. Nothing takes an exception or returns
from one: the spec describes neither (R230, R235, R236; log entry 33). -/

namespace Sys2Proof.Machine

/-- The result of a step or of a meaning. -/
abbrev Result := Host.Outcome State Fault Refusal

/-! ### Mode bits -/

/-- The flag m of the 65816 (R20), at bit 5 of `P`. -/
def State.flagM (s : State) : Bool := s.p.getLsbD 5

/-- The operand width W (R4): 16 on the 65816 with m = 0, else 8. -/
def State.width (s : State) : Width :=
  if s.cpu = .cpu65816 ∧ s.flagM = false then .w16 else .w8

/-- The 65816 is in emulation mode, which the model refuses (R103, R245). -/
def State.emulating (s : State) : Bool := s.cpu == .cpu65816 && s.e

/-! ### The accumulator operand `AccW` (R11) -/

/-- Read `AccW`: the low W bits of `A`. -/
def State.acc (s : State) (w : Width) : BitVec w.bits := s.a.setWidth w.bits

/-- Write `AccW`: the low W bits of `A`; when W = 8 the high byte is kept (R11, D9, log entry 18). -/
def State.setAcc (s : State) : (w : Width) → BitVec w.bits → State
  | .w8, (v : BitVec 8) => { s with a := s.a.extractLsb' 8 8 ++ v }
  | .w16, (v : BitVec 16) => { s with a := v }

/-! ### Memory -/

/-- The byte at an address. -/
def Memory.read : Memory → Nat → Byte
  | [], _ => Config.unlistedByte
  | c :: m, a => if c.1 = a then c.2 else Memory.read m a

/-- Put a byte in front of a memory, unless an unlisted byte reads so already. -/
def Memory.cell (a : Nat) (v : Byte) (m : Memory) : Memory :=
  if v = Config.unlistedByte then m else (a, v) :: m

/-- Write a byte, keeping the canonical form: writing the unlisted byte removes the entry. -/
def Memory.write : Memory → Nat → Byte → Memory
  | [], a, v => Memory.cell a v []
  | c :: m, a, v =>
    if a < c.1 then Memory.cell a v (c :: m)
    else if a = c.1 then Memory.cell a v m
    else c :: Memory.write m a v

/-- `MemRead(a, 1)` (R7, R45). -/
def State.readByte (s : State) (a : Addr) : Byte := s.mem.read a.toNat

/-- `MemWrite(a, 1, v)` (R7). -/
def State.writeByte (s : State) (a : Addr) (v : Byte) : State := { s with mem := s.mem.write a.toNat v }

/-- The address is plain memory: it is in `mem_admit` (R46). -/
def State.admits (s : State) (a : Addr) : Bool := s.memAdmit.any (fun r => r.holds a.toNat)

/-- The first of the addresses, in order, that is not plain memory. -/
def State.firstRefused (s : State) (as : List Addr) : Option Addr := as.find? (fun a => !s.admits a)

/-! ### The program counter -/

/-- Bits 23:16 of a fetch address: `PBR` on the 65816; the 6502 and 65C02 have none (R15, R61). -/
def State.fetchBank (s : State) : Byte := if s.cpu = .cpu65816 then s.pbr else 0

/-- The address of the instruction's byte at offset `k`: `(PC + k) mod 2^16` in the program bank (R61). -/
def State.fetchAddr (s : State) (k : Nat) : Addr := s.fetchBank ++ (s.pc + BitVec.ofNat 16 k)

/-- `pc <- (PC + len) mod 2^16` (R17); `PBR` does not change. -/
def State.advance (s : State) (len : Nat) : State := { s with pc := s.pc + BitVec.ofNat 16 len }

/-! ### The guard -/

/-- An instruction takes its effect `t` unless the 65816 is in emulation mode (R103), the processor does not have the
instruction (R66), or an address it touches is not plain memory (R46): then the step is refused, and nothing changes. -/
def checked (i : Instr) (touched : List Addr) (s t : State) : Result :=
  if s.emulating then .refused .emulationMode
  else if s.cpu ∉ i.cpus then .refused (.notAvailableOnCpu i.opcode s.cpu)
  else match s.firstRefused touched with
    | some a => .refused (.memNotAdmitted a)
    | none => .next t

end Sys2Proof.Machine
end

