-- ==== Sys2Proof/Machine/Flags.lean ====
section
/-! DEFINITION. The flags of `P` (R18, R20 to R25) and the flag computations of the instruction families. -/

namespace Sys2Proof.Machine

/-- Set bit `k` of a status byte to `b`; the other seven keep their values. -/
def putBit (p : Byte) (k : Nat) (b : Bool) : Byte :=
  if b then p ||| BitVec.twoPow 8 k else p &&& ~~~(BitVec.twoPow 8 k)

/-- Flag n, `P[7]` (R21). -/
def State.flagN (s : State) : Bool := s.p.getLsbD 7

/-- Flag v, `P[6]` (R22). -/
def State.flagV (s : State) : Bool := s.p.getLsbD 6

/-- Flag z, `P[1]` (R23). -/
def State.flagZ (s : State) : Bool := s.p.getLsbD 1

/-- Flag c, `P[0]` (R24). -/
def State.flagC (s : State) : Bool := s.p.getLsbD 0

/-- The four positions `P[5:2]`, which no instruction writes (R25). -/
def State.flagsMiddle (s : State) : BitVec 4 := s.p.extractLsb' 2 4

def State.setN (s : State) (b : Bool) : State := { s with p := putBit s.p 7 b }

def State.setV (s : State) (b : Bool) : State := { s with p := putBit s.p 6 b }

def State.setZ (s : State) (b : Bool) : State := { s with p := putBit s.p 1 b }

def State.setC (s : State) (b : Bool) : State := { s with p := putBit s.p 0 b }

/-- n and z from a W-bit result: n is bit MSB (cleared when it is 0: D10, log entry 15), z says the result is 0
(R120, R150, R170, R190). -/
def State.flagsNZ (s : State) {n : Nat} (r : BitVec n) : State := (s.setN r.msb).setZ (r == 0)

/-- z from the test of R140 and R220: the AND of accumulator and operand is 0. -/
def State.flagZTest (s : State) {n : Nat} (acc m : BitVec n) : State := s.setZ ((acc &&& m) == 0)

/-- n and v of BIT on memory (R140): bits MSB and MSB - 1 of the operand. -/
def State.flagsTopBits (s : State) {n : Nat} (m : BitVec n) : State := (s.setN m.msb).setV (m.getLsbD (n - 2))

end Sys2Proof.Machine
end

