-- ==== Sys2Proof/Machine/Operands.lean ====
section
/-! DEFINITION. Effective addresses, and reading and writing the operand (spec/40_addressing_modes.md). The arithmetic of
every mode is the spec's general knowledge (D7, log entry 11). -/

namespace Sys2Proof.Machine

/-- `EA(mode)` (R80): `ea0` is where the operand's low byte is, `ea1` where its high byte is when W = 16. -/
structure EA where
  ea0 : Addr
  ea1 : Addr
  deriving DecidableEq, Repr

/-- The two bytes lie at consecutive 24-bit addresses (R83, second case). -/
def EA.far (a : Addr) : EA := ⟨a, a + 1⟩

/-- An address in bank 0. -/
def bank0 (off : Word) : Addr := (0 : Byte) ++ off

/-- The two bytes lie in bank 0, the second wrapping at 16 bits (R83, first case). -/
def EA.inBank0 (off : Word) : EA := ⟨bank0 off, bank0 (off + 1)⟩

/-! ### Pointers (R84) -/

/-- The addresses of the zero-page pointer at `p`, low byte first: the second byte wraps at 8 bits (6502, 65C02). -/
def ptrAddrsZp (p : Byte) : List Addr := [p.setWidth 24, (p + 1).setWidth 24]

/-- `Ptr16(p)` on the 6502 and 65C02. -/
def ptr16Zp (s : State) (p : Byte) : Word := s.readByte ((p + 1).setWidth 24) ++ s.readByte (p.setWidth 24)

/-- The addresses of the 2-byte pointer at `p` in bank 0 (65816). -/
def ptrAddrs16 (p : Word) : List Addr := [bank0 p, bank0 (p + 1)]

/-- `Ptr16(p)` on the 65816. -/
def ptr16 (s : State) (p : Word) : Word := s.readByte (bank0 (p + 1)) ++ s.readByte (bank0 p)

/-- The addresses of the 3-byte pointer at `p` in bank 0 (65816). -/
def ptrAddrs24 (p : Word) : List Addr := [bank0 p, bank0 (p + 1), bank0 (p + 2)]

/-- `Ptr24(p)` on the 65816. -/
def ptr24 (s : State) (p : Word) : Addr :=
  s.readByte (bank0 (p + 2)) ++ s.readByte (bank0 (p + 1)) ++ s.readByte (bank0 p)

/-! ### The 6502 and the 65C02 -/

/-- An index register of the 6502 or 65C02 is 8 bits wide (R12). -/
def index8 (r : Word) : Byte := r.setWidth 8

/-- The zero-page pointer a mode reads, if it reads one. -/
def pointerZp (s : State) : MemOperand → Option Byte
  | .dpInd b | .dpIndY b => some b
  | .dpXInd b => some (b + index8 s.x)
  | .abs _ | .long _ | .dp _ | .dpIndL _ | .absX _ | .longX _ | .absY _ | .dpX _ | .dpIndLY _ | .sr _ | .srIndY _ => none

/-- `ea0` on the 6502 and 65C02 (R86 to R96, lines "6502, 65C02"), as an offset in the 16-bit address space. The modes
`long`, `long,X`, `[dp]`, `[dp],Y`, `sr,S` and `(sr,S),Y` are the 65816's alone: every instruction that has one is refused
here by `checked` before its address is used, and the address stands for nothing (log entry 35). -/
def ea8 (s : State) : MemOperand → Word
  | .abs a => a
  | .dp b => b.setWidth 16
  | .dpInd b => ptr16Zp s b
  | .absX a => a + (index8 s.x).setWidth 16
  | .absY a => a + (index8 s.y).setWidth 16
  | .dpX b => (b + index8 s.x).setWidth 16
  | .dpXInd b => ptr16Zp s (b + index8 s.x)
  | .dpIndY b => ptr16Zp s b + (index8 s.y).setWidth 16
  | .long _ | .dpIndL _ | .longX _ | .dpIndLY _ | .sr _ | .srIndY _ => 0

/-! ### The 65816 in native mode -/

/-- A direct-page offset: `(D + b1) mod 2^16` (R88). -/
def dpOffset (s : State) (b : Byte) : Word := s.d + b.setWidth 16

/-- A stack offset: `(S + b1) mod 2^16`, `b1` unsigned (R98). -/
def srOffset (s : State) (b : Byte) : Word := s.sp + b.setWidth 16

/-- The addresses of the pointer a mode reads, low byte first; none for a mode without one. -/
def pointerAddrs816 (s : State) : MemOperand → List Addr
  | .dpInd b | .dpIndY b => ptrAddrs16 (dpOffset s b)
  | .dpXInd b => ptrAddrs16 (dpOffset s b + s.x)
  | .dpIndL b | .dpIndLY b => ptrAddrs24 (dpOffset s b)
  | .srIndY b => ptrAddrs16 (srOffset s b)
  | .abs _ | .long _ | .dp _ | .absX _ | .longX _ | .absY _ | .dpX _ | .sr _ => []

/-- `EA(mode)` on the 65816 (R86 to R99, lines "65816"). `X` and `Y` are added whole (R12). -/
def ea816 (s : State) : MemOperand → EA
  | .abs a => .far (s.dbr ++ a)
  | .long a => .far a
  | .dp b => .inBank0 (dpOffset s b)
  | .dpInd b => .far (s.dbr ++ ptr16 s (dpOffset s b))
  | .dpIndL b => .far (ptr24 s (dpOffset s b))
  | .absX a => .far ((s.dbr ++ a) + s.x.setWidth 24)
  | .longX a => .far (a + s.x.setWidth 24)
  | .absY a => .far ((s.dbr ++ a) + s.y.setWidth 24)
  | .dpX b => .inBank0 (dpOffset s b + s.x)
  | .dpXInd b => .far (s.dbr ++ ptr16 s (dpOffset s b + s.x))
  | .dpIndY b => .far ((s.dbr ++ ptr16 s (dpOffset s b)) + s.y.setWidth 24)
  | .dpIndLY b => .far (ptr24 s (dpOffset s b) + s.y.setWidth 24)
  | .sr b => .inBank0 (srOffset s b)
  | .srIndY b => .far ((s.dbr ++ ptr16 s (srOffset s b)) + s.y.setWidth 24)

/-! ### Both -/

/-- `EA(mode)` (R80). On the 6502 and 65C02 `ea1` is never used (W is 8). -/
def ea (s : State) (m : MemOperand) : EA :=
  if s.cpu = .cpu65816 then ea816 s m else .inBank0 (ea8 s m)

/-- The addresses of the pointer a mode reads, in the order read (R43 item 2). -/
def pointerAddrs (s : State) (m : MemOperand) : List Addr :=
  if s.cpu = .cpu65816 then pointerAddrs816 s m
  else match pointerZp s m with
    | some p => ptrAddrsZp p
    | none => []

/-- The operand's addresses in the order they are read: `ea0`, then `ea1` when W = 16 (R43 item 3). -/
def EA.reads (e : EA) : Width → List Addr
  | .w8 => [e.ea0]
  | .w16 => [e.ea0, e.ea1]

/-- The operand's addresses in the order they are written: `ea1`, then `ea0` when W = 16 (R43 item 4, R82). -/
def EA.writes (e : EA) : Width → List Addr
  | .w8 => [e.ea0]
  | .w16 => [e.ea1, e.ea0]

/-- The data addresses an instruction that only reads its operand touches, in order (R43). -/
def readAddrs (w : Width) (o : Operand) (s : State) : List Addr :=
  match o with
  | .acc => []
  | .imm _ => []
  | .mem m => pointerAddrs s m ++ (ea s m).reads w

/-- The data addresses an instruction that reads and writes its operand touches, in order (R43). -/
def modifyAddrs (w : Width) (o : Operand) (s : State) : List Addr :=
  match o with
  | .acc => []
  | .imm _ => []
  | .mem m => pointerAddrs s m ++ (ea s m).reads w ++ (ea s m).writes w

/-- The W-bit value in memory at `(ea0, ea1)`, little-endian (R81). -/
def readMem (s : State) (e : EA) : (w : Width) → BitVec w.bits
  | .w8 => s.readByte e.ea0
  | .w16 => s.readByte e.ea1 ++ s.readByte e.ea0

/-- Store a W-bit value at `(ea0, ea1)`, high byte first (R82). -/
def writeMem (s : State) (e : EA) : (w : Width) → BitVec w.bits → State
  | .w8, (v : BitVec 8) => s.writeByte e.ea0 v
  | .w16, (v : BitVec 16) => (s.writeByte e.ea1 (byteOf 1 v)).writeByte e.ea0 (byteOf 0 v)

/-- `ReadOp(mode)` (R81). -/
def readOp (w : Width) (o : Operand) (s : State) : BitVec w.bits :=
  match o with
  | .acc => s.acc w
  | .imm k => k.setWidth w.bits
  | .mem m => readMem s (ea s m) w

/-- `WriteOp(mode, v)` (R82): to the addresses of the state `s` the operand was read in. No instruction writes to a
constant: "`WriteOp(IMM, v)` does not occur". -/
def writeOp (w : Width) (o : Operand) (v : BitVec w.bits) (s : State) : State :=
  match o with
  | .acc => s.setAcc w v
  | .imm _ => s
  | .mem m => writeMem s (ea s m) w v

end Sys2Proof.Machine
end

