-- ==== Sys2Proof/Machine/And.lean ====
section
/-! DEFINITION. AND, And Accumulator with Memory (spec/41_and.md). -/

namespace Sys2Proof.Machine

/-- AND (R120): `r = AccW & m`; `AccW <- r`; n and z from r; then `PC` advances. -/
def andMeaning (i : Instr) (s : State) : Result :=
  let w := s.width
  let r := s.acc w &&& readOp w i.operand s
  checked i (readAddrs w i.operand s) s (((s.setAcc w r).flagsNZ r).advance (i.length w))

/-- `AND #const` (R121; mode IMM, R85). -/
def execAndImm (k : Word) (s : State) : Result := andMeaning (.andImm k) s

/-- `AND addr` (R122; mode ABS, R86). -/
def execAndAbs (a : Word) (s : State) : Result := andMeaning (.andAbs a) s

/-- `AND long` (R123; mode LONG, R87). -/
def execAndLong (a : Addr) (s : State) : Result := andMeaning (.andLong a) s

/-- `AND dp` (R124; mode DP, R88). -/
def execAndDp (b : Byte) (s : State) : Result := andMeaning (.andDp b) s

/-- `AND (dp)` (R125; mode DPIND, R89). -/
def execAndDpInd (b : Byte) (s : State) : Result := andMeaning (.andDpInd b) s

/-- `AND [dp]` (R126; mode DPINDL, R90). -/
def execAndDpIndL (b : Byte) (s : State) : Result := andMeaning (.andDpIndL b) s

/-- `AND addr,X` (R127; mode ABSX, R91). -/
def execAndAbsX (a : Word) (s : State) : Result := andMeaning (.andAbsX a) s

/-- `AND long,X` (R128; mode LONGX, R92). -/
def execAndLongX (a : Addr) (s : State) : Result := andMeaning (.andLongX a) s

/-- `AND addr,Y` (R129; mode ABSY, R93). -/
def execAndAbsY (a : Word) (s : State) : Result := andMeaning (.andAbsY a) s

/-- `AND dp,X` (R130; mode DPX, R94). -/
def execAndDpX (b : Byte) (s : State) : Result := andMeaning (.andDpX b) s

/-- `AND (dp,X)` (R131; mode DPXIND, R95). -/
def execAndDpXInd (b : Byte) (s : State) : Result := andMeaning (.andDpXInd b) s

/-- `AND (dp),Y` (R132; mode DPINDY, R96). -/
def execAndDpIndY (b : Byte) (s : State) : Result := andMeaning (.andDpIndY b) s

/-- `AND [dp],Y` (R133; mode DPINDLY, R97). -/
def execAndDpIndLY (b : Byte) (s : State) : Result := andMeaning (.andDpIndLY b) s

/-- `AND sr,S` (R134; mode SR, R98). -/
def execAndSr (b : Byte) (s : State) : Result := andMeaning (.andSr b) s

/-- `AND (sr,S),Y` (R135; mode SRINDY, R99). -/
def execAndSrIndY (b : Byte) (s : State) : Result := andMeaning (.andSrIndY b) s

end Sys2Proof.Machine
end

