-- ==== Sys2Proof/Machine/Bit.lean ====
section
/-! DEFINITION. BIT, Test Memory Bits against Accumulator (spec/42_bit.md). -/

namespace Sys2Proof.Machine

/-- BIT on a memory operand (R140): n and v take the operand's two top bits, z tests `AccW & m`; nothing else is written. -/
def bitMemMeaning (i : Instr) (s : State) : Result :=
  let w := s.width
  let m := readOp w i.operand s
  checked i (readAddrs w i.operand s) s (((s.flagsTopBits m).flagZTest (s.acc w) m).advance (i.length w))

/-- BIT `#const` (R140, R141): z alone; n and v keep their values (D11, log entry 16). -/
def bitImmMeaning (i : Instr) (s : State) : Result :=
  let w := s.width
  checked i (readAddrs w i.operand s) s ((s.flagZTest (s.acc w) (readOp w i.operand s)).advance (i.length w))

/-- `BIT #const` (R141; mode IMM, R85). -/
def execBitImm (k : Word) (s : State) : Result := bitImmMeaning (.bitImm k) s

/-- `BIT addr` (R142; mode ABS, R86). -/
def execBitAbs (a : Word) (s : State) : Result := bitMemMeaning (.bitAbs a) s

/-- `BIT dp` (R143; mode DP, R88). -/
def execBitDp (b : Byte) (s : State) : Result := bitMemMeaning (.bitDp b) s

/-- `BIT addr,X` (R144; mode ABSX, R91). -/
def execBitAbsX (a : Word) (s : State) : Result := bitMemMeaning (.bitAbsX a) s

/-- `BIT dp,X` (R145; mode DPX, R94). -/
def execBitDpX (b : Byte) (s : State) : Result := bitMemMeaning (.bitDpX b) s

end Sys2Proof.Machine
end

