-- ==== Sys2Proof/Machine/Eor.lean ====
section
/-! DEFINITION. EOR, Exclusive-OR Accumulator with Memory (spec/43_eor.md). -/

namespace Sys2Proof.Machine

/-- EOR (R150): `r = AccW ^ m`; `AccW <- r`; n and z from r; then `PC` advances. -/
def eorMeaning (i : Instr) (s : State) : Result :=
  let w := s.width
  let r := s.acc w ^^^ readOp w i.operand s
  checked i (readAddrs w i.operand s) s (((s.setAcc w r).flagsNZ r).advance (i.length w))

/-- `EOR #const` (R151; mode IMM, R85). -/
def execEorImm (k : Word) (s : State) : Result := eorMeaning (.eorImm k) s

/-- `EOR addr` (R152; mode ABS, R86). -/
def execEorAbs (a : Word) (s : State) : Result := eorMeaning (.eorAbs a) s

/-- `EOR long` (R153; mode LONG, R87). -/
def execEorLong (a : Addr) (s : State) : Result := eorMeaning (.eorLong a) s

/-- `EOR dp` (R154; mode DP, R88). -/
def execEorDp (b : Byte) (s : State) : Result := eorMeaning (.eorDp b) s

/-- `EOR (dp)` (R155; mode DPIND, R89). -/
def execEorDpInd (b : Byte) (s : State) : Result := eorMeaning (.eorDpInd b) s

/-- `EOR [dp]` (R156; mode DPINDL, R90). -/
def execEorDpIndL (b : Byte) (s : State) : Result := eorMeaning (.eorDpIndL b) s

/-- `EOR addr,X` (R157; mode ABSX, R91). -/
def execEorAbsX (a : Word) (s : State) : Result := eorMeaning (.eorAbsX a) s

/-- `EOR long,X` (R158; mode LONGX, R92). -/
def execEorLongX (a : Addr) (s : State) : Result := eorMeaning (.eorLongX a) s

/-- `EOR addr,Y` (R159; mode ABSY, R93). -/
def execEorAbsY (a : Word) (s : State) : Result := eorMeaning (.eorAbsY a) s

/-- `EOR dp,X` (R160; mode DPX, R94). -/
def execEorDpX (b : Byte) (s : State) : Result := eorMeaning (.eorDpX b) s

/-- `EOR (dp,X)` (R161; mode DPXIND, R95). -/
def execEorDpXInd (b : Byte) (s : State) : Result := eorMeaning (.eorDpXInd b) s

/-- `EOR (dp),Y` (R162; mode DPINDY, R96). -/
def execEorDpIndY (b : Byte) (s : State) : Result := eorMeaning (.eorDpIndY b) s

/-- `EOR [dp],Y` (R163; mode DPINDLY, R97). -/
def execEorDpIndLY (b : Byte) (s : State) : Result := eorMeaning (.eorDpIndLY b) s

/-- `EOR sr,S` (R164; mode SR, R98). -/
def execEorSr (b : Byte) (s : State) : Result := eorMeaning (.eorSr b) s

/-- `EOR (sr,S),Y` (R165; mode SRINDY, R99). -/
def execEorSrIndY (b : Byte) (s : State) : Result := eorMeaning (.eorSrIndY b) s

end Sys2Proof.Machine
end

