-- ==== Sys2Proof/Machine/Ora.lean ====
section
/-! DEFINITION. ORA, OR Accumulator with Memory (spec/44_ora.md). -/

namespace Sys2Proof.Machine

/-- ORA (R170): `r = AccW | m`; `AccW <- r`; n and z from r; then `PC` advances. -/
def oraMeaning (i : Instr) (s : State) : Result :=
  let w := s.width
  let r := s.acc w ||| readOp w i.operand s
  checked i (readAddrs w i.operand s) s (((s.setAcc w r).flagsNZ r).advance (i.length w))

/-- `ORA #const` (R171; mode IMM, R85). -/
def execOraImm (k : Word) (s : State) : Result := oraMeaning (.oraImm k) s

/-- `ORA addr` (R172; mode ABS, R86). -/
def execOraAbs (a : Word) (s : State) : Result := oraMeaning (.oraAbs a) s

/-- `ORA long` (R173; mode LONG, R87). -/
def execOraLong (a : Addr) (s : State) : Result := oraMeaning (.oraLong a) s

/-- `ORA dp` (R174; mode DP, R88). -/
def execOraDp (b : Byte) (s : State) : Result := oraMeaning (.oraDp b) s

/-- `ORA (dp)` (R175; mode DPIND, R89). -/
def execOraDpInd (b : Byte) (s : State) : Result := oraMeaning (.oraDpInd b) s

/-- `ORA [dp]` (R176; mode DPINDL, R90). -/
def execOraDpIndL (b : Byte) (s : State) : Result := oraMeaning (.oraDpIndL b) s

/-- `ORA addr,X` (R177; mode ABSX, R91). -/
def execOraAbsX (a : Word) (s : State) : Result := oraMeaning (.oraAbsX a) s

/-- `ORA long,X` (R178; mode LONGX, R92). -/
def execOraLongX (a : Addr) (s : State) : Result := oraMeaning (.oraLongX a) s

/-- `ORA addr,Y` (R179; mode ABSY, R93). -/
def execOraAbsY (a : Word) (s : State) : Result := oraMeaning (.oraAbsY a) s

/-- `ORA dp,X` (R180; mode DPX, R94). -/
def execOraDpX (b : Byte) (s : State) : Result := oraMeaning (.oraDpX b) s

/-- `ORA (dp,X)` (R181; mode DPXIND, R95). -/
def execOraDpXInd (b : Byte) (s : State) : Result := oraMeaning (.oraDpXInd b) s

/-- `ORA (dp),Y` (R182; mode DPINDY, R96). -/
def execOraDpIndY (b : Byte) (s : State) : Result := oraMeaning (.oraDpIndY b) s

/-- `ORA [dp],Y` (R183; mode DPINDLY, R97). -/
def execOraDpIndLY (b : Byte) (s : State) : Result := oraMeaning (.oraDpIndLY b) s

/-- `ORA sr,S` (R184; mode SR, R98). -/
def execOraSr (b : Byte) (s : State) : Result := oraMeaning (.oraSr b) s

/-- `ORA (sr,S),Y` (R185; mode SRINDY, R99). -/
def execOraSrIndY (b : Byte) (s : State) : Result := oraMeaning (.oraSrIndY b) s

end Sys2Proof.Machine
end

