-- ==== Sys2Proof/Machine/Shift.lean ====
section
/-! DEFINITION. ASL, LSR, ROL, ROR: shifts and rotates by one bit (spec/45_shift_rotate.md). -/

namespace Sys2Proof.Machine

/-- ASL (R191): the value shifted left, 0 into bit 0, and the bit shifted out of bit MSB. -/
def asl {n : Nat} (m : BitVec n) : BitVec n × Bool := (m <<< 1, m.msb)

/-- LSR (R192): the value shifted right, 0 into bit MSB, and the bit shifted out of bit 0. -/
def lsr {n : Nat} (m : BitVec n) : BitVec n × Bool := (m >>> 1, m.getLsbD 0)

/-- ROL (R193): as ASL, with the old carry into bit 0. -/
def rol {n : Nat} (m : BitVec n) (cin : Bool) : BitVec n × Bool :=
  ((m <<< 1) ||| (BitVec.ofBool cin).setWidth n, m.msb)

/-- ROR (R194): as LSR, with the old carry into bit MSB. -/
def ror {n : Nat} (m : BitVec n) (cin : Bool) : BitVec n × Bool :=
  ((m >>> 1) ||| ((BitVec.ofBool cin).setWidth n <<< (n - 1)), m.getLsbD 0)

/-- What every instruction of the family does with its result and shifted-out bit (R190): the result goes back to where
the operand came from, then c, n, z; then `PC` advances. The addresses are those of the state before (R82). -/
def shiftStore (i : Instr) (s : State) (res : BitVec s.width.bits × Bool) : Result :=
  let w := s.width
  checked i (modifyAddrs w i.operand s) s
    ((((writeOp w i.operand res.1 s).setC res.2).flagsNZ res.1).advance (i.length w))

/-- ASL (R190, R191). -/
def aslMeaning (i : Instr) (s : State) : Result := shiftStore i s (asl (readOp s.width i.operand s))

/-- LSR (R190, R192). -/
def lsrMeaning (i : Instr) (s : State) : Result := shiftStore i s (lsr (readOp s.width i.operand s))

/-- ROL (R190, R193): the incoming bit is `P.c` before the instruction. -/
def rolMeaning (i : Instr) (s : State) : Result := shiftStore i s (rol (readOp s.width i.operand s) s.flagC)

/-- ROR (R190, R194): the incoming bit is `P.c` before the instruction. -/
def rorMeaning (i : Instr) (s : State) : Result := shiftStore i s (ror (readOp s.width i.operand s) s.flagC)

/-- `ASL A` (R195; mode ACC, R100). -/
def execAslAcc (s : State) : Result := aslMeaning .aslAcc s

/-- `ASL addr` (R196; mode ABS, R86). -/
def execAslAbs (a : Word) (s : State) : Result := aslMeaning (.aslAbs a) s

/-- `ASL dp` (R197; mode DP, R88). -/
def execAslDp (b : Byte) (s : State) : Result := aslMeaning (.aslDp b) s

/-- `ASL addr,X` (R198; mode ABSX, R91). -/
def execAslAbsX (a : Word) (s : State) : Result := aslMeaning (.aslAbsX a) s

/-- `ASL dp,X` (R199; mode DPX, R94). -/
def execAslDpX (b : Byte) (s : State) : Result := aslMeaning (.aslDpX b) s

/-- `LSR A` (R200; mode ACC, R100). -/
def execLsrAcc (s : State) : Result := lsrMeaning .lsrAcc s

/-- `LSR addr` (R201; mode ABS, R86). -/
def execLsrAbs (a : Word) (s : State) : Result := lsrMeaning (.lsrAbs a) s

/-- `LSR dp` (R202; mode DP, R88). -/
def execLsrDp (b : Byte) (s : State) : Result := lsrMeaning (.lsrDp b) s

/-- `LSR addr,X` (R203; mode ABSX, R91). -/
def execLsrAbsX (a : Word) (s : State) : Result := lsrMeaning (.lsrAbsX a) s

/-- `LSR dp,X` (R204; mode DPX, R94). -/
def execLsrDpX (b : Byte) (s : State) : Result := lsrMeaning (.lsrDpX b) s

/-- `ROL A` (R205; mode ACC, R100). -/
def execRolAcc (s : State) : Result := rolMeaning .rolAcc s

/-- `ROL addr` (R206; mode ABS, R86). -/
def execRolAbs (a : Word) (s : State) : Result := rolMeaning (.rolAbs a) s

/-- `ROL dp` (R207; mode DP, R88). -/
def execRolDp (b : Byte) (s : State) : Result := rolMeaning (.rolDp b) s

/-- `ROL addr,X` (R208; mode ABSX, R91). -/
def execRolAbsX (a : Word) (s : State) : Result := rolMeaning (.rolAbsX a) s

/-- `ROL dp,X` (R209; mode DPX, R94). -/
def execRolDpX (b : Byte) (s : State) : Result := rolMeaning (.rolDpX b) s

/-- `ROR A` (R210; mode ACC, R100). -/
def execRorAcc (s : State) : Result := rorMeaning .rorAcc s

/-- `ROR addr` (R211; mode ABS, R86). -/
def execRorAbs (a : Word) (s : State) : Result := rorMeaning (.rorAbs a) s

/-- `ROR dp` (R212; mode DP, R88). -/
def execRorDp (b : Byte) (s : State) : Result := rorMeaning (.rorDp b) s

/-- `ROR addr,X` (R213; mode ABSX, R91). -/
def execRorAbsX (a : Word) (s : State) : Result := rorMeaning (.rorAbsX a) s

/-- `ROR dp,X` (R214; mode DPX, R94). -/
def execRorDpX (b : Byte) (s : State) : Result := rorMeaning (.rorDpX b) s

end Sys2Proof.Machine
end

