-- ==== Sys2Proof/Machine/TrbTsb.lean ====
section
/-! DEFINITION. TRB and TSB, Test and Reset / Test and Set Memory Bits (spec/46_trb_tsb.md). -/

namespace Sys2Proof.Machine

/-- What TRB and TSB share (R220): z tests `AccW & m` with m as read, before the write (D12, log entry 17); then `v` is
stored where m came from and `PC` advances. -/
def testStore (i : Instr) (s : State) (m v : BitVec s.width.bits) : Result :=
  let w := s.width
  checked i (modifyAddrs w i.operand s) s
    (((writeOp w i.operand v s).flagZTest (s.acc w) m).advance (i.length w))

/-- TRB (R220): clears in memory the bits that are 1 in `AccW`. -/
def trbMeaning (i : Instr) (s : State) : Result :=
  let m := readOp s.width i.operand s
  testStore i s m (m &&& ~~~(s.acc s.width))

/-- TSB (R220): sets in memory the bits that are 1 in `AccW`. -/
def tsbMeaning (i : Instr) (s : State) : Result :=
  let m := readOp s.width i.operand s
  testStore i s m (m ||| s.acc s.width)

/-- `TRB addr` (R221; mode ABS, R86). -/
def execTrbAbs (a : Word) (s : State) : Result := trbMeaning (.trbAbs a) s

/-- `TRB dp` (R222; mode DP, R88). -/
def execTrbDp (b : Byte) (s : State) : Result := trbMeaning (.trbDp b) s

/-- `TSB addr` (R223; mode ABS, R86). -/
def execTsbAbs (a : Word) (s : State) : Result := tsbMeaning (.tsbAbs a) s

/-- `TSB dp` (R224; mode DP, R88). -/
def execTsbDp (b : Byte) (s : State) : Result := tsbMeaning (.tsbDp b) s

end Sys2Proof.Machine
end

