-- ==== Sys2Proof/Machine/Dispatch.lean ====
section
/-! DEFINITION. One arm per instruction, each one direct call of its meaning. -/

namespace Sys2Proof.Machine

def exec (i : Instr) (s : State) : Host.Outcome State Fault Refusal :=
  match i with
  | .andImm k => Sys2Proof.Machine.execAndImm k s
  | .andAbs a => Sys2Proof.Machine.execAndAbs a s
  | .andLong a => Sys2Proof.Machine.execAndLong a s
  | .andDp b => Sys2Proof.Machine.execAndDp b s
  | .andDpInd b => Sys2Proof.Machine.execAndDpInd b s
  | .andDpIndL b => Sys2Proof.Machine.execAndDpIndL b s
  | .andAbsX a => Sys2Proof.Machine.execAndAbsX a s
  | .andLongX a => Sys2Proof.Machine.execAndLongX a s
  | .andAbsY a => Sys2Proof.Machine.execAndAbsY a s
  | .andDpX b => Sys2Proof.Machine.execAndDpX b s
  | .andDpXInd b => Sys2Proof.Machine.execAndDpXInd b s
  | .andDpIndY b => Sys2Proof.Machine.execAndDpIndY b s
  | .andDpIndLY b => Sys2Proof.Machine.execAndDpIndLY b s
  | .andSr b => Sys2Proof.Machine.execAndSr b s
  | .andSrIndY b => Sys2Proof.Machine.execAndSrIndY b s
  | .bitImm k => Sys2Proof.Machine.execBitImm k s
  | .bitAbs a => Sys2Proof.Machine.execBitAbs a s
  | .bitDp b => Sys2Proof.Machine.execBitDp b s
  | .bitAbsX a => Sys2Proof.Machine.execBitAbsX a s
  | .bitDpX b => Sys2Proof.Machine.execBitDpX b s
  | .eorImm k => Sys2Proof.Machine.execEorImm k s
  | .eorAbs a => Sys2Proof.Machine.execEorAbs a s
  | .eorLong a => Sys2Proof.Machine.execEorLong a s
  | .eorDp b => Sys2Proof.Machine.execEorDp b s
  | .eorDpInd b => Sys2Proof.Machine.execEorDpInd b s
  | .eorDpIndL b => Sys2Proof.Machine.execEorDpIndL b s
  | .eorAbsX a => Sys2Proof.Machine.execEorAbsX a s
  | .eorLongX a => Sys2Proof.Machine.execEorLongX a s
  | .eorAbsY a => Sys2Proof.Machine.execEorAbsY a s
  | .eorDpX b => Sys2Proof.Machine.execEorDpX b s
  | .eorDpXInd b => Sys2Proof.Machine.execEorDpXInd b s
  | .eorDpIndY b => Sys2Proof.Machine.execEorDpIndY b s
  | .eorDpIndLY b => Sys2Proof.Machine.execEorDpIndLY b s
  | .eorSr b => Sys2Proof.Machine.execEorSr b s
  | .eorSrIndY b => Sys2Proof.Machine.execEorSrIndY b s
  | .oraImm k => Sys2Proof.Machine.execOraImm k s
  | .oraAbs a => Sys2Proof.Machine.execOraAbs a s
  | .oraLong a => Sys2Proof.Machine.execOraLong a s
  | .oraDp b => Sys2Proof.Machine.execOraDp b s
  | .oraDpInd b => Sys2Proof.Machine.execOraDpInd b s
  | .oraDpIndL b => Sys2Proof.Machine.execOraDpIndL b s
  | .oraAbsX a => Sys2Proof.Machine.execOraAbsX a s
  | .oraLongX a => Sys2Proof.Machine.execOraLongX a s
  | .oraAbsY a => Sys2Proof.Machine.execOraAbsY a s
  | .oraDpX b => Sys2Proof.Machine.execOraDpX b s
  | .oraDpXInd b => Sys2Proof.Machine.execOraDpXInd b s
  | .oraDpIndY b => Sys2Proof.Machine.execOraDpIndY b s
  | .oraDpIndLY b => Sys2Proof.Machine.execOraDpIndLY b s
  | .oraSr b => Sys2Proof.Machine.execOraSr b s
  | .oraSrIndY b => Sys2Proof.Machine.execOraSrIndY b s
  | .aslAcc => Sys2Proof.Machine.execAslAcc s
  | .aslAbs a => Sys2Proof.Machine.execAslAbs a s
  | .aslDp b => Sys2Proof.Machine.execAslDp b s
  | .aslAbsX a => Sys2Proof.Machine.execAslAbsX a s
  | .aslDpX b => Sys2Proof.Machine.execAslDpX b s
  | .lsrAcc => Sys2Proof.Machine.execLsrAcc s
  | .lsrAbs a => Sys2Proof.Machine.execLsrAbs a s
  | .lsrDp b => Sys2Proof.Machine.execLsrDp b s
  | .lsrAbsX a => Sys2Proof.Machine.execLsrAbsX a s
  | .lsrDpX b => Sys2Proof.Machine.execLsrDpX b s
  | .rolAcc => Sys2Proof.Machine.execRolAcc s
  | .rolAbs a => Sys2Proof.Machine.execRolAbs a s
  | .rolDp b => Sys2Proof.Machine.execRolDp b s
  | .rolAbsX a => Sys2Proof.Machine.execRolAbsX a s
  | .rolDpX b => Sys2Proof.Machine.execRolDpX b s
  | .rorAcc => Sys2Proof.Machine.execRorAcc s
  | .rorAbs a => Sys2Proof.Machine.execRorAbs a s
  | .rorDp b => Sys2Proof.Machine.execRorDp b s
  | .rorAbsX a => Sys2Proof.Machine.execRorAbsX a s
  | .rorDpX b => Sys2Proof.Machine.execRorDpX b s
  | .trbAbs a => Sys2Proof.Machine.execTrbAbs a s
  | .trbDp b => Sys2Proof.Machine.execTrbDp b s
  | .tsbAbs a => Sys2Proof.Machine.execTsbAbs a s
  | .tsbDp b => Sys2Proof.Machine.execTsbDp b s

end Sys2Proof.Machine
end

