-- ==== Sys2Proof/Machine/Fetch.lean ====
section
/-! DEFINITION. Fetching the next instruction (R8, R43 item 1, R61), and placing one where it is fetched from. -/

namespace Sys2Proof.Machine

/-- `Fetch8(k)` (R61). -/
def State.fetch8 (s : State) (k : Nat) : Byte := s.readByte (s.fetchAddr k)

/-- The bytes from which the instruction is decoded. An instruction is at most 4 bytes long (R62); a byte past the
instruction's length is not part of it, and the decoder does not look at it. -/
def State.fetchWindow (s : State) : List Byte := [s.fetch8 0, s.fetch8 1, s.fetch8 2, s.fetch8 3]

/-- The addresses of the instruction's `len` bytes, in order (R43 item 1). -/
def State.fetchAddrs (s : State) (len : Nat) : List Addr := (List.range len).map s.fetchAddr

/-- The instruction at the program counter, or why there is none (R8, R69): in the order emulation mode, the opcode byte
not plain memory, opcode unknown, opcode not on this processor, an operand byte not plain memory (log entry 31). -/
def fetchInstr (s : State) : Except Refusal Instr :=
  if s.emulating then .error .emulationMode
  else if s.admits (s.fetchAddr 0) = false then .error (.memNotAdmitted (s.fetchAddr 0))
  else match decode s.width s.fetchWindow with
    | .error _ => .error (.unknownOpcode (s.fetch8 0))
    | .ok (i, _) =>
      if s.cpu ∉ i.cpus then .error (.notAvailableOnCpu i.opcode s.cpu)
      else match s.firstRefused (s.fetchAddrs (i.length s.width)) with
        | some a => .error (.memNotAdmitted a)
        | none => .ok i

/-- Store bytes at the fetch addresses from offset `k` on, making each address plain memory where it was not. -/
def State.placeBytes (s : State) (k : Nat) : List Byte → State
  | [] => s
  | b :: bs =>
    let a := s.fetchAddr k
    let t := if s.admits a then s else { s with memAdmit := ⟨a.toNat, 1⟩ :: s.memAdmit }
    (t.writeByte a b).placeBytes (k + 1) bs

end Sys2Proof.Machine
end

