-- ==== Sys2Proof/Machine/Step.lean ====
section
/-! DEFINITION. One step of the machine (R8): fetch the instruction, then run its rule, which ends with the advance of
`PC`. -/

namespace Sys2Proof.Machine

/-- One step (R8). -/
def step (s : State) : Host.Outcome State Fault Refusal :=
  match fetchInstr s with
  | .error r => .refused r
  | .ok i => exec i s

/-- `s` with the four bytes of a table row's instruction placed where `step` fetches (log entry 7). -/
def State.withFetchWord (s : State) (nbits w : Nat) : State := s.placeBytes 0 (tableBytes nbits w)

end Sys2Proof.Machine
end

