-- ==== Sys2Proof/Safety.lean ====
section
/-! DEFINITION. What claims speak of: the invariant every step keeps, the end of a run (R253), and runs. -/

namespace Sys2Proof.Machine

/-- Every listed address is below `2^AW` (R40). -/
def Memory.below (bits : Nat) (m : Memory) : Bool := m.all (fun c => c.1 < 2 ^ bits)

/-- The registers the processor has, and nothing else (R30): on the 6502 and 65C02 the high bytes of `A`, `X`, `Y`, `S`
and the registers `D`, `DBR`, `PBR` and `e` are 0; on the 65816 the high bytes of `X` and `Y` are 0 when its flag x
(`P[4]`) is 1 (R12). -/
def State.registersWf (s : State) : Bool :=
  match s.cpu with
  | .cpu65816 => !s.p.getLsbD 4 || (s.x.toNat < 256 && s.y.toNat < 256)
  | .cpu6502 | .cpu65C02 =>
    s.a.toNat < 256 && s.x.toNat < 256 && s.y.toNat < 256 && s.sp.toNat < 256
      && s.d == 0 && s.dbr == 0 && s.pbr == 0 && !s.e

/-- The invariant: memory canonical and inside the address space, registers as the processor has them. -/
def State.wf (s : State) : Bool := s.mem.wf && s.mem.below s.cpu.addrBits && s.registersWf

/-- The run has reached `end_pc` (R253): `PC = end_pc`, together with `PBR` on the 65816. -/
def State.finished (s : State) (endPbr : Byte) (endPc : Word) : Bool :=
  s.pc == endPc && (s.cpu != .cpu65816 || s.pbr == endPbr)

/-- How a run ends (R253, R245). -/
inductive RunEnd where
  /-- `PC = end_pc` before a step: the end state. -/
  | finished (s : State)
  /-- A step was refused: the run has no end state. -/
  | refused (r : Refusal)
  /-- The steps allowed ran out before `end_pc`. -/
  | unfinished (s : State)
  deriving DecidableEq, Repr

/-- Run to `end_pc` (R253), for at most the given number of steps. -/
def runTo (endPbr : Byte) (endPc : Word) : Nat → State → RunEnd
  | 0, s => if s.finished endPbr endPc then .finished s else .unfinished s
  | fuel + 1, s =>
    if s.finished endPbr endPc then .finished s
    else match step s with
      | .next t => runTo endPbr endPc fuel t
      | .refused r => .refused r
      | .fault f => nomatch f

end Sys2Proof.Machine
end

