-- ==== Sys2Proof/Certificates/Slice0/Obligations.lean ====
section
/-! DEFINITION. The statements for the provers. The namespace Claims holds the words they share. A docstring names the
decisions of the spec, and the log entries, a statement rests on. -/

open Sys2Proof Sys2Proof.Machine

namespace Sys2Proof.Claims

/-- Nothing refuses the instruction: not in emulation mode, on a processor that has it, every address it touches plain
memory (R245). -/
def Ready (i : Instr) (s : State) (touched : List Addr) : Prop :=
  s.emulating = false ∧ s.cpu ∈ i.cpus ∧ ∀ a ∈ touched, s.admits a = true

/-- `PC` has advanced by the instruction's length modulo 2^16 (R17). -/
def Advanced (i : Instr) (s t : State) : Prop := t.pc.toNat = (s.pc.toNat + i.length s.width) % 2 ^ 16

/-- The state no instruction writes is unchanged: the parameters, `e`, `X`, `Y`, `S`, `D`, `DBR`, `PBR`, `P[5:2]`. -/
def SameRest (s t : State) : Prop :=
  t.cpu = s.cpu ∧ t.memAdmit = s.memAdmit ∧ t.e = s.e ∧ t.x = s.x ∧ t.y = s.y ∧ t.sp = s.sp ∧ t.d = s.d
    ∧ t.dbr = s.dbr ∧ t.pbr = s.pbr ∧ t.flagsMiddle = s.flagsMiddle

/-- Every byte of memory at an address outside the list reads as before. -/
def SameBytesOutside (s t : State) (as : List Addr) : Prop := ∀ b : Addr, b ∉ as → t.readByte b = s.readByte b

/-- The value in the operand's place after the instruction, in the place found before it (R82). -/
def operandAfter (o : Operand) (s t : State) : BitVec s.width.bits :=
  match o with
  | .acc => t.acc s.width
  | .imm k => k.setWidth s.width.bits
  | .mem m => readMem t (ea s m) s.width

/-- `A` is unchanged, but for the bits below W when it is the operand (R11). -/
def SameABut (o : Operand) (s t : State) : Prop :=
  (o ≠ .acc → t.a = s.a) ∧ ∀ j, s.width.bits ≤ j → t.a.getLsbD j = s.a.getLsbD j

/-- The data addresses an instruction touches, in the order of R43. -/
def touched (i : Instr) (s : State) : List Addr :=
  if i.mnemonic ∈ [Mnemonic.AND, .EOR, .ORA, .BIT] then readAddrs s.width i.operand s
  else modifyAddrs s.width i.operand s

/-- The addresses an instruction stores to: the bytes of the memory operand of a shift, a rotate, TRB or TSB, at the
effective address computed from the state before it; none for any other instruction. -/
def storedAddrs (i : Instr) (s : State) : List Addr :=
  match i.operand with
  | .mem m => if i.mnemonic ∈ [Mnemonic.AND, .EOR, .ORA, .BIT] then [] else (ea s m).writes s.width
  | .acc => []
  | .imm _ => []

/-- A byte of memory as a number. -/
def byteAt (s : State) (n : Nat) : Nat := (s.mem.read n).toNat

/-- The zero-page pointer at `p` as a number: its high byte at `(p + 1) mod 256`. -/
def pointerZpAt (s : State) (p : Nat) : Nat := byteAt s p + 256 * byteAt s ((p + 1) % 256)

/-- The 2-byte pointer at `p` in bank 0 as a number. -/
def pointer16At (s : State) (p : Nat) : Nat := byteAt s p + 256 * byteAt s ((p + 1) % 2 ^ 16)

/-- The 3-byte pointer at `p` in bank 0 as a number. -/
def pointer24At (s : State) (p : Nat) : Nat := pointer16At s p + 65536 * byteAt s ((p + 2) % 2 ^ 16)

/-- The opcode bytes of the rows with one mark: the 65816's alone. -/
def oneMarkOpcodes : List Byte :=
  [0x2F, 0x27, 0x3F, 0x37, 0x23, 0x33, 0x4F, 0x47, 0x5F, 0x57, 0x43, 0x53, 0x0F, 0x07, 0x1F, 0x17, 0x03, 0x13]

/-- The opcode bytes of the rows with two marks: the 65C02's and the 65816's. -/
def twoMarkOpcodes : List Byte :=
  [0x32, 0x89, 0x3C, 0x34, 0x52, 0x12, 0x1C, 0x14, 0x0C, 0x04]

/-- The opcode map of spec/30_encoding.md section 5: opcode byte, mnemonic, mode. -/
def opcodeRows : List (Byte × Mnemonic × Mode) :=
  [(0x29, .AND, .IMM), (0x2D, .AND, .ABS), (0x2F, .AND, .LONG), (0x25, .AND, .DP), (0x32, .AND, .DPIND),
   (0x27, .AND, .DPINDL), (0x3D, .AND, .ABSX), (0x3F, .AND, .LONGX), (0x39, .AND, .ABSY), (0x35, .AND, .DPX),
   (0x21, .AND, .DPXIND), (0x31, .AND, .DPINDY), (0x37, .AND, .DPINDLY), (0x23, .AND, .SR),
   (0x33, .AND, .SRINDY), (0x89, .BIT, .IMM), (0x2C, .BIT, .ABS), (0x24, .BIT, .DP), (0x3C, .BIT, .ABSX),
   (0x34, .BIT, .DPX), (0x49, .EOR, .IMM), (0x4D, .EOR, .ABS), (0x4F, .EOR, .LONG), (0x45, .EOR, .DP),
   (0x52, .EOR, .DPIND), (0x47, .EOR, .DPINDL), (0x5D, .EOR, .ABSX), (0x5F, .EOR, .LONGX), (0x59, .EOR, .ABSY),
   (0x55, .EOR, .DPX), (0x41, .EOR, .DPXIND), (0x51, .EOR, .DPINDY), (0x57, .EOR, .DPINDLY), (0x43, .EOR, .SR),
   (0x53, .EOR, .SRINDY), (0x09, .ORA, .IMM), (0x0D, .ORA, .ABS), (0x0F, .ORA, .LONG), (0x05, .ORA, .DP),
   (0x12, .ORA, .DPIND), (0x07, .ORA, .DPINDL), (0x1D, .ORA, .ABSX), (0x1F, .ORA, .LONGX), (0x19, .ORA, .ABSY),
   (0x15, .ORA, .DPX), (0x01, .ORA, .DPXIND), (0x11, .ORA, .DPINDY), (0x17, .ORA, .DPINDLY), (0x03, .ORA, .SR),
   (0x13, .ORA, .SRINDY), (0x0A, .ASL, .ACC), (0x0E, .ASL, .ABS), (0x06, .ASL, .DP), (0x1E, .ASL, .ABSX),
   (0x16, .ASL, .DPX), (0x4A, .LSR, .ACC), (0x4E, .LSR, .ABS), (0x46, .LSR, .DP), (0x5E, .LSR, .ABSX),
   (0x56, .LSR, .DPX), (0x2A, .ROL, .ACC), (0x2E, .ROL, .ABS), (0x26, .ROL, .DP), (0x3E, .ROL, .ABSX),
   (0x36, .ROL, .DPX), (0x6A, .ROR, .ACC), (0x6E, .ROR, .ABS), (0x66, .ROR, .DP), (0x7E, .ROR, .ABSX),
   (0x76, .ROR, .DPX), (0x1C, .TRB, .ABS), (0x14, .TRB, .DP), (0x0C, .TSB, .ABS), (0x04, .TSB, .DP)]

end Sys2Proof.Claims

/-- Decoding an encoded well-formed instruction gives it back, at either width, whatever follows it. The byte order of
an operand is the spec's general knowledge (log entry 9). -/
def Obligations.DecodeOfEncodeIsTheInstruction : Prop :=
  ∀ (w : Width) (i : Instr) (rest : List Byte), i.wellFormed w = true → decode w (encode w i ++ rest) = .ok (i, rest)

/-- What the decoder accepts is well-formed, and encodes to exactly the bytes it was read from. The byte order of an
operand is the spec's general knowledge (log entry 9). -/
def Obligations.EncodeOfDecodeIsTheBytes : Prop :=
  ∀ (w : Width) (bytes : List Byte) (i : Instr) (rest : List Byte),
    decode w bytes = .ok (i, rest) → i.wellFormed w = true ∧ encode w i ++ rest = bytes

/-- The opcode byte alone selects the mnemonic and the addressing mode; zero to three operand bytes follow it. -/
def Obligations.TheOpcodeByteAloneSelectsMnemonicAndMode : Prop :=
  ∀ (w w' : Width) (op : Byte) (bs bs' : List Byte) (i j : Instr) (rest rest' : List Byte),
    decode w (op :: bs) = .ok (i, rest) → decode w' (op :: bs') = .ok (j, rest') →
      i.mnemonic = j.mnemonic ∧ i.operand.mode = j.operand.mode
        ∧ ∃ operandBytes : List Byte, operandBytes.length ≤ 3 ∧ bs = operandBytes ++ rest
            ∧ encode w i = op :: operandBytes

/-- The length of each instruction: 2 or 3 bytes by W for the four #const rows, the table's number of bytes for every
other row. -/
def Obligations.LengthDependsOnWOnlyForImmediates : Prop :=
  ∀ (i : Instr) (w : Width),
    (i.length w = match i.operand.mode with
        | .IMM => if w = .w8 then 2 else 3
        | .ACC => 1
        | .DP | .DPIND | .DPINDL | .DPX | .DPXIND | .DPINDY | .DPINDLY | .SR | .SRINDY => 2
        | .ABS | .ABSX | .ABSY => 3
        | .LONG | .LONGX => 4)
    ∧ (i.operand.mode = .IMM → i.mnemonic ∈ [Mnemonic.AND, .BIT, .EOR, .ORA])

/-- The decoder reads each listed opcode byte as its row says, and refuses the other 182: the map of
spec/30_encoding.md section 5. That an unlisted byte is refused is decision D3 (log entry 20). -/
def Obligations.OpcodeMapHasExactlyTheListedRows : Prop :=
  (∀ row ∈ Claims.opcodeRows, ∀ (w : Width) (b1 b2 b3 : Byte), ∃ (i : Instr) (rest : List Byte),
      decode w [row.1, b1, b2, b3] = .ok (i, rest) ∧ i.mnemonic = row.2.1 ∧ i.operand.mode = row.2.2)
    ∧ (∀ op : Byte, (∀ row ∈ Claims.opcodeRows, row.1 ≠ op) →
        ∀ (w : Width) (rest : List Byte), decode w (op :: rest) = .error (.unknownOpcode op))
    ∧ (Claims.opcodeRows.map (fun row => row.1)).Nodup ∧ Claims.opcodeRows.length = 74

/-- Instruction words written out from the formats and the opcode map decode to the instructions they stand for. The
byte order is the spec's general knowledge (log entry 9). -/
def Obligations.WordsWrittenOutDecodeAsTheirRowsSay : Prop :=
  decode .w8 [0x29, 0x5A] = .ok (.andImm 0x005A, [])
    ∧ decode .w16 [0x29, 0xF0, 0x0F] = .ok (.andImm 0x0FF0, [])
    ∧ decode .w8 [0x2C, 0x34, 0x12] = .ok (.bitAbs 0x1234, [])
    ∧ decode .w8 [0x4F, 0x56, 0x34, 0x12] = .ok (.eorLong 0x123456, [])
    ∧ decode .w8 [0x13, 0x03] = .ok (.oraSrIndY 0x03, [])
    ∧ decode .w8 [0x0A] = .ok (.aslAcc, [])
    ∧ decode .w8 [0x5E, 0xF0, 0x12] = .ok (.lsrAbsX 0x12F0, [])
    ∧ decode .w8 [0x26, 0x71] = .ok (.rolDp 0x71, [])
    ∧ decode .w8 [0x76, 0xF0] = .ok (.rorDpX 0xF0, [])
    ∧ decode .w8 [0x1C, 0x00, 0x20] = .ok (.trbAbs 0x2000, [])
    ∧ decode .w8 [0x04, 0x40] = .ok (.tsbDp 0x40, [])

/-- A step runs the decoded instruction (spec/00_scope.md section 5). That nothing happens between steps is decision
D22 (log entry 22). -/
def Obligations.StepRunsTheDecodedInstruction : Prop :=
  ∀ (s : State) (i : Instr) (rest : List Byte), s.emulating = false →
    decode s.width s.fetchWindow = .ok (i, rest) → s.cpu ∈ i.cpus →
    (∀ k, k < i.length s.width → s.admits (s.fetchAddr k) = true) →
      step s = exec i s

/-- A step whose instruction bytes are the encoding of a well-formed instruction runs it, whatever bytes follow. Rests
on decisions D5, D15, D22 (log entries 9, 19, 22). -/
def Obligations.StepRunsTheEncodedInstruction : Prop :=
  ∀ (s : State) (i : Instr), s.emulating = false → s.cpu ∈ i.cpus → i.wellFormed s.width = true →
    (∀ k, k < i.length s.width →
      s.admits (s.fetchAddr k) = true ∧ (encode s.width i)[k]? = some (s.fetch8 k)) →
      step s = exec i s

/-- A step answers a next state exactly when none of the refusals of spec/60_exceptions.md section 7 applies. The
refusals are decisions D3, D4, D8, D17 (log entries 2, 3, 20, 21). -/
def Obligations.StepCompletesExactlyWhenNothingRefusesIt : Prop :=
  ∀ s : State, (∃ t, step s = .next t) ↔
    s.emulating = false ∧ ∃ (i : Instr) (rest : List Byte), decode s.width s.fetchWindow = .ok (i, rest)
      ∧ s.cpu ∈ i.cpus ∧ (∀ k, k < i.length s.width → s.admits (s.fetchAddr k) = true)
      ∧ ∀ a ∈ Claims.touched i s, s.admits a = true

/-- An instruction placed by withFetchWord is the one the next step runs: the model's own interface (log entries 7 and
34). -/
def Obligations.PlacedTableWordIsTheNextInstructionRun : Prop :=
  ∀ (s : State) (nbits word : Nat) (i : Instr), decodeTableWord nbits word = some i →
    s.width = .w8 → s.emulating = false → s.mem.wf = true → s.cpu ∈ i.cpus →
      step (s.withFetchWord nbits word) = exec i (s.withFetchWord nbits word)

/-- AND, all fifteen forms: completion, result, flags and frame (spec/41_and.md). n is cleared otherwise (D10), dashes
mean unchanged (D13), A[15:8] is kept at m = 1 (D9), PC advances modulo 2^16 (D15): log entries 14, 15, 18, 19. -/
def Obligations.AndCompletesWithTheBitwiseAnd : Prop :=
  ∀ (k a : Word) (l : Addr) (b : Byte) (i : Instr) (s : State),
    i ∈ [.andImm k, .andAbs a, .andLong l, .andDp b, .andDpInd b, .andDpIndL b, .andAbsX a, .andLongX l,
      .andAbsY a, .andDpX b, .andDpXInd b, .andDpIndY b, .andDpIndLY b, .andSr b, .andSrIndY b] →
    Claims.Ready i s (readAddrs s.width i.operand s) →
    ∃ t, exec i s = .next t
      ∧ (∀ j, j < s.width.bits → t.a.getLsbD j = (s.a.getLsbD j && (readOp s.width i.operand s).getLsbD j))
      ∧ (∀ j, s.width.bits ≤ j → t.a.getLsbD j = s.a.getLsbD j)
      ∧ t.flagN = t.a.getLsbD s.width.msb
      ∧ (t.flagZ = true ↔ ∀ j, j < s.width.bits → t.a.getLsbD j = false)
      ∧ t.flagV = s.flagV ∧ t.flagC = s.flagC
      ∧ Claims.Advanced i s t ∧ Claims.SameRest s t ∧ Claims.SameBytesOutside s t []

/-- EOR, all fifteen forms: completion, result, flags and frame (spec/43_eor.md). n is cleared otherwise (D10), dashes
mean unchanged (D13), A[15:8] is kept at m = 1 (D9), PC advances modulo 2^16 (D15): log entries 14, 15, 18, 19. -/
def Obligations.EorCompletesWithTheBitwiseExclusiveOr : Prop :=
  ∀ (k a : Word) (l : Addr) (b : Byte) (i : Instr) (s : State),
    i ∈ [.eorImm k, .eorAbs a, .eorLong l, .eorDp b, .eorDpInd b, .eorDpIndL b, .eorAbsX a, .eorLongX l,
      .eorAbsY a, .eorDpX b, .eorDpXInd b, .eorDpIndY b, .eorDpIndLY b, .eorSr b, .eorSrIndY b] →
    Claims.Ready i s (readAddrs s.width i.operand s) →
    ∃ t, exec i s = .next t
      ∧ (∀ j, j < s.width.bits → t.a.getLsbD j = (s.a.getLsbD j ^^ (readOp s.width i.operand s).getLsbD j))
      ∧ (∀ j, s.width.bits ≤ j → t.a.getLsbD j = s.a.getLsbD j)
      ∧ t.flagN = t.a.getLsbD s.width.msb
      ∧ (t.flagZ = true ↔ ∀ j, j < s.width.bits → t.a.getLsbD j = false)
      ∧ t.flagV = s.flagV ∧ t.flagC = s.flagC
      ∧ Claims.Advanced i s t ∧ Claims.SameRest s t ∧ Claims.SameBytesOutside s t []

/-- ORA, all fifteen forms: completion, result, flags and frame (spec/44_ora.md). n is cleared otherwise (D10), dashes
mean unchanged (D13), A[15:8] is kept at m = 1 (D9), PC advances modulo 2^16 (D15): log entries 14, 15, 18, 19. -/
def Obligations.OraCompletesWithTheBitwiseOr : Prop :=
  ∀ (k a : Word) (l : Addr) (b : Byte) (i : Instr) (s : State),
    i ∈ [.oraImm k, .oraAbs a, .oraLong l, .oraDp b, .oraDpInd b, .oraDpIndL b, .oraAbsX a, .oraLongX l,
      .oraAbsY a, .oraDpX b, .oraDpXInd b, .oraDpIndY b, .oraDpIndLY b, .oraSr b, .oraSrIndY b] →
    Claims.Ready i s (readAddrs s.width i.operand s) →
    ∃ t, exec i s = .next t
      ∧ (∀ j, j < s.width.bits → t.a.getLsbD j = (s.a.getLsbD j || (readOp s.width i.operand s).getLsbD j))
      ∧ (∀ j, s.width.bits ≤ j → t.a.getLsbD j = s.a.getLsbD j)
      ∧ t.flagN = t.a.getLsbD s.width.msb
      ∧ (t.flagZ = true ↔ ∀ j, j < s.width.bits → t.a.getLsbD j = false)
      ∧ t.flagV = s.flagV ∧ t.flagC = s.flagC
      ∧ Claims.Advanced i s t ∧ Claims.SameRest s t ∧ Claims.SameBytesOutside s t []

/-- BIT on memory: completion, flags and frame (spec/42_bit.md). Rests on D13 and D15 for what a dash means and for PC
(log entries 14, 19). -/
def Obligations.BitOnMemoryCompletesAndWritesOnlyFlags : Prop :=
  ∀ (a : Word) (b : Byte) (i : Instr) (s : State), i ∈ [Instr.bitAbs a, .bitDp b, .bitAbsX a, .bitDpX b] →
    Claims.Ready i s (readAddrs s.width i.operand s) →
    ∃ t, exec i s = .next t
      ∧ t.flagN = (readOp s.width i.operand s).getLsbD s.width.msb
      ∧ t.flagV = (readOp s.width i.operand s).getLsbD (s.width.msb - 1)
      ∧ (t.flagZ = true ↔
          ∀ j, j < s.width.bits → (s.a.getLsbD j && (readOp s.width i.operand s).getLsbD j) = false)
      ∧ t.flagC = s.flagC ∧ t.a = s.a
      ∧ Claims.Advanced i s t ∧ Claims.SameRest s t ∧ Claims.SameBytesOutside s t []

/-- BIT #const: completion, flags and frame (spec/42_bit.md). That n and v are unchanged is decision D11 (log entry
16); D13, D15: log entries 14, 19. -/
def Obligations.BitImmediateCompletesAndWritesOnlyZ : Prop :=
  ∀ (k : Word) (s : State), Claims.Ready (.bitImm k) s [] →
    ∃ t, exec (.bitImm k) s = .next t
      ∧ (t.flagZ = true ↔ ∀ j, j < s.width.bits → (s.a.getLsbD j && k.getLsbD j) = false)
      ∧ t.flagN = s.flagN ∧ t.flagV = s.flagV ∧ t.flagC = s.flagC ∧ t.a = s.a
      ∧ Claims.Advanced (.bitImm k) s t ∧ Claims.SameRest s t ∧ Claims.SameBytesOutside s t []

/-- ASL, all five forms: completion, result, flags and frame (spec/45_shift_rotate.md). Rests on D10, D13, D9, D15,
D30 (log entries 14, 15, 18, 19, 25). -/
def Obligations.AslCompletesWithTheValueShiftedLeft : Prop :=
  ∀ (a : Word) (b : Byte) (i : Instr) (s : State),
    i ∈ [Instr.aslAcc, .aslAbs a, .aslDp b, .aslAbsX a, .aslDpX b] →
    s.mem.wf = true → Claims.Ready i s (modifyAddrs s.width i.operand s) →
    ∃ t, exec i s = .next t
      ∧ (∀ j, j < s.width.bits → (Claims.operandAfter i.operand s t).getLsbD j =
          (if j = 0 then false else (readOp s.width i.operand s).getLsbD (j - 1)))
      ∧ t.flagC = (readOp s.width i.operand s).getLsbD s.width.msb
      ∧ t.flagN = (Claims.operandAfter i.operand s t).getLsbD s.width.msb
      ∧ (t.flagZ = true ↔ Claims.operandAfter i.operand s t = 0)
      ∧ t.flagV = s.flagV ∧ Claims.SameABut i.operand s t
      ∧ Claims.Advanced i s t ∧ Claims.SameRest s t ∧ Claims.SameBytesOutside s t (Claims.storedAddrs i s)

/-- LSR, all five forms: completion, result, flags and frame (spec/45_shift_rotate.md). Rests on D10, D13, D9, D15,
D30 (log entries 14, 15, 18, 19, 25). -/
def Obligations.LsrCompletesWithTheValueShiftedRight : Prop :=
  ∀ (a : Word) (b : Byte) (i : Instr) (s : State),
    i ∈ [Instr.lsrAcc, .lsrAbs a, .lsrDp b, .lsrAbsX a, .lsrDpX b] →
    s.mem.wf = true → Claims.Ready i s (modifyAddrs s.width i.operand s) →
    ∃ t, exec i s = .next t
      ∧ (∀ j, j < s.width.bits → (Claims.operandAfter i.operand s t).getLsbD j =
          (if j = s.width.msb then false else (readOp s.width i.operand s).getLsbD (j + 1)))
      ∧ t.flagC = (readOp s.width i.operand s).getLsbD 0
      ∧ t.flagN = (Claims.operandAfter i.operand s t).getLsbD s.width.msb
      ∧ (t.flagZ = true ↔ Claims.operandAfter i.operand s t = 0)
      ∧ t.flagV = s.flagV ∧ Claims.SameABut i.operand s t
      ∧ Claims.Advanced i s t ∧ Claims.SameRest s t ∧ Claims.SameBytesOutside s t (Claims.storedAddrs i s)

/-- ROL, all five forms: completion, result, flags and frame (spec/45_shift_rotate.md). Rests on D10, D13, D9, D15,
D30 (log entries 14, 15, 18, 19, 25). -/
def Obligations.RolCompletesWithTheValueRotatedLeft : Prop :=
  ∀ (a : Word) (b : Byte) (i : Instr) (s : State),
    i ∈ [Instr.rolAcc, .rolAbs a, .rolDp b, .rolAbsX a, .rolDpX b] →
    s.mem.wf = true → Claims.Ready i s (modifyAddrs s.width i.operand s) →
    ∃ t, exec i s = .next t
      ∧ (∀ j, j < s.width.bits → (Claims.operandAfter i.operand s t).getLsbD j =
          (if j = 0 then s.flagC else (readOp s.width i.operand s).getLsbD (j - 1)))
      ∧ t.flagC = (readOp s.width i.operand s).getLsbD s.width.msb
      ∧ t.flagN = (Claims.operandAfter i.operand s t).getLsbD s.width.msb
      ∧ (t.flagZ = true ↔ Claims.operandAfter i.operand s t = 0)
      ∧ t.flagV = s.flagV ∧ Claims.SameABut i.operand s t
      ∧ Claims.Advanced i s t ∧ Claims.SameRest s t ∧ Claims.SameBytesOutside s t (Claims.storedAddrs i s)

/-- ROR, all five forms: completion, result, flags and frame (spec/45_shift_rotate.md). Rests on D10, D13, D9, D15,
D30 (log entries 14, 15, 18, 19, 25). -/
def Obligations.RorCompletesWithTheValueRotatedRight : Prop :=
  ∀ (a : Word) (b : Byte) (i : Instr) (s : State),
    i ∈ [Instr.rorAcc, .rorAbs a, .rorDp b, .rorAbsX a, .rorDpX b] →
    s.mem.wf = true → Claims.Ready i s (modifyAddrs s.width i.operand s) →
    ∃ t, exec i s = .next t
      ∧ (∀ j, j < s.width.bits → (Claims.operandAfter i.operand s t).getLsbD j =
          (if j = s.width.msb then s.flagC else (readOp s.width i.operand s).getLsbD (j + 1)))
      ∧ t.flagC = (readOp s.width i.operand s).getLsbD 0
      ∧ t.flagN = (Claims.operandAfter i.operand s t).getLsbD s.width.msb
      ∧ (t.flagZ = true ↔ Claims.operandAfter i.operand s t = 0)
      ∧ t.flagV = s.flagV ∧ Claims.SameABut i.operand s t
      ∧ Claims.Advanced i s t ∧ Claims.SameRest s t ∧ Claims.SameBytesOutside s t (Claims.storedAddrs i s)

/-- TRB, both forms: completion, result, z and frame (spec/46_trb_tsb.md). That z uses the value before the write is
decision D12 (log entry 17); D13, D15, D30: log entries 14, 19, 25. -/
def Obligations.TrbCompletesClearingTheSelectedBits : Prop :=
  ∀ (a : Word) (b : Byte) (i : Instr) (s : State), i ∈ [Instr.trbAbs a, .trbDp b] →
    s.mem.wf = true → Claims.Ready i s (modifyAddrs s.width i.operand s) →
    ∃ t, exec i s = .next t
      ∧ (∀ j, j < s.width.bits → (Claims.operandAfter i.operand s t).getLsbD j =
          ((readOp s.width i.operand s).getLsbD j && !s.a.getLsbD j))
      ∧ (t.flagZ = true ↔
          ∀ j, j < s.width.bits → (s.a.getLsbD j && (readOp s.width i.operand s).getLsbD j) = false)
      ∧ t.flagN = s.flagN ∧ t.flagV = s.flagV ∧ t.flagC = s.flagC ∧ t.a = s.a
      ∧ Claims.Advanced i s t ∧ Claims.SameRest s t ∧ Claims.SameBytesOutside s t (Claims.storedAddrs i s)

/-- TSB, both forms: completion, result, z and frame (spec/46_trb_tsb.md). That z uses the value before the write is
decision D12 (log entry 17); D13, D15, D30: log entries 14, 19, 25. -/
def Obligations.TsbCompletesSettingTheSelectedBits : Prop :=
  ∀ (a : Word) (b : Byte) (i : Instr) (s : State), i ∈ [Instr.tsbAbs a, .tsbDp b] →
    s.mem.wf = true → Claims.Ready i s (modifyAddrs s.width i.operand s) →
    ∃ t, exec i s = .next t
      ∧ (∀ j, j < s.width.bits → (Claims.operandAfter i.operand s t).getLsbD j =
          ((readOp s.width i.operand s).getLsbD j || s.a.getLsbD j))
      ∧ (t.flagZ = true ↔
          ∀ j, j < s.width.bits → (s.a.getLsbD j && (readOp s.width i.operand s).getLsbD j) = false)
      ∧ t.flagN = s.flagN ∧ t.flagV = s.flagV ∧ t.flagC = s.flagC ∧ t.a = s.a
      ∧ Claims.Advanced i s t ∧ Claims.SameRest s t ∧ Claims.SameBytesOutside s t (Claims.storedAddrs i s)

/-- ASL as an operation: the value shifted left, cout * 2^W + r = 2 * m, with the corner cases. -/
def Obligations.AslIsAnUnsignedDoubling : Prop :=
  ∀ (w : Width) (m : BitVec w.bits),
    let r := (asl m).1
    let cout := (asl m).2
    (∀ j, j < w.bits → r.getLsbD j = if j = 0 then false else m.getLsbD (j - 1))
      ∧ cout = m.getLsbD w.msb ∧ cout.toNat * 2 ^ w.bits + r.toNat = 2 * m.toNat ∧ r.toNat % 2 = 0
      ∧ (m.toNat = 0 → r.toNat = 0 ∧ cout = false) ∧ (m.toNat = 2 ^ w.msb → r.toNat = 0 ∧ cout = true)
      ∧ (m.toNat = 2 ^ (w.msb - 1) → r.toNat = 2 ^ w.msb ∧ cout = false)
      ∧ (∀ (i : Instr) (s t : State) (c : Bool), i.mnemonic = .ASL → exec i s = .next t →
          t.flagC = (asl (readOp s.width i.operand s)).2
          ∧ ((asl (readOp s.width i.operand s)).1.getLsbD s.width.msb = true → t.flagN = true)
          ∧ (t.flagZ = true ↔ (asl (readOp s.width i.operand s)).1 = 0)
          ∧ exec i (s.setC c) = .next t)

/-- LSR as an operation: the value shifted right, m = 2 * r + cout, and n is always 0 after it, with the corner cases.
-/
def Obligations.LsrIsAnUnsignedHalving : Prop :=
  ∀ (w : Width) (m : BitVec w.bits),
    let r := (lsr m).1
    let cout := (lsr m).2
    (∀ j, j < w.bits → r.getLsbD j = if j = w.msb then false else m.getLsbD (j + 1))
      ∧ cout = m.getLsbD 0 ∧ m.toNat = 2 * r.toNat + cout.toNat
      ∧ (m.toNat = 0 → r.toNat = 0 ∧ cout = false) ∧ (m.toNat = 1 → r.toNat = 0 ∧ cout = true)
      ∧ (m.toNat = 2 ^ w.bits - 1 → r.toNat = 2 ^ w.msb - 1 ∧ cout = true)
      ∧ (∀ (i : Instr) (s t : State) (c : Bool), i.mnemonic = .LSR → exec i s = .next t →
          t.flagC = (lsr (readOp s.width i.operand s)).2
          ∧ (t.flagZ = true ↔ (lsr (readOp s.width i.operand s)).1 = 0)
          ∧ exec i (s.setC c) = .next t ∧ t.flagN = false)

/-- ROL as an operation: cout * 2^W + r = 2 * m + cin, with the corner cases. -/
def Obligations.RolIsADoublingThroughTheCarry : Prop :=
  ∀ (w : Width) (m : BitVec w.bits) (cin : Bool),
    let r := (rol m cin).1
    let cout := (rol m cin).2
    (∀ j, j < w.bits → r.getLsbD j = if j = 0 then cin else m.getLsbD (j - 1))
      ∧ cout = m.getLsbD w.msb ∧ cout.toNat * 2 ^ w.bits + r.toNat = 2 * m.toNat + cin.toNat
      ∧ (m.toNat = 0 ∧ cin = true → r.toNat = 1 ∧ cout = false)
      ∧ (m.toNat = 2 ^ w.msb ∧ cin = false → r.toNat = 0 ∧ cout = true)
      ∧ (m.toNat = 2 ^ w.bits - 1 ∧ cin = true → r.toNat = 2 ^ w.bits - 1 ∧ cout = true ∧ r.msb = true)
      ∧ (∀ (i : Instr) (s t : State), i.mnemonic = .ROL → exec i s = .next t →
          t.flagC = (rol (readOp s.width i.operand s) s.flagC).2
          ∧ ((rol (readOp s.width i.operand s) s.flagC).1.getLsbD s.width.msb = true → t.flagN = true)
          ∧ (t.flagZ = true ↔ (rol (readOp s.width i.operand s) s.flagC).1 = 0))

/-- ROR as an operation: m + cin * 2^W = 2 * r + cout, and n after it is the old carry, with the corner cases. -/
def Obligations.RorIsAHalvingThroughTheCarry : Prop :=
  ∀ (w : Width) (m : BitVec w.bits) (cin : Bool),
    let r := (ror m cin).1
    let cout := (ror m cin).2
    (∀ j, j < w.bits → r.getLsbD j = if j = w.msb then cin else m.getLsbD (j + 1))
      ∧ cout = m.getLsbD 0 ∧ m.toNat + cin.toNat * 2 ^ w.bits = 2 * r.toNat + cout.toNat
      ∧ (m.toNat = 0 ∧ cin = true → r.toNat = 2 ^ w.msb ∧ cout = false)
      ∧ (m.toNat = 1 ∧ cin = false → r.toNat = 0 ∧ cout = true)
      ∧ (∀ (i : Instr) (s t : State), i.mnemonic = .ROR → exec i s = .next t →
          t.flagC = (ror (readOp s.width i.operand s) s.flagC).2
          ∧ (t.flagZ = true ↔ (ror (readOp s.width i.operand s) s.flagC).1 = 0) ∧ t.flagN = s.flagC)

/-- ROR undoes ROL and ROL undoes ROR: each is a rotate of the operand and the carry together. -/
def Obligations.RotatesUndoEachOther : Prop :=
  ∀ (w : Width) (m : BitVec w.bits) (c : Bool),
    ror (rol m c).1 (rol m c).2 = (m, c) ∧ rol (ror m c).1 (ror m c).2 = (m, c)

/-- ASL then ROL doubles a two-word number, LSR then ROR halves it: the carry hands the bit over. -/
def Obligations.ShiftsChainThroughTheCarry : Prop :=
  ∀ (w : Width) (hi lo : BitVec w.bits),
    (let low := asl lo
     let high := rol hi low.2
     high.2.toNat * 2 ^ (2 * w.bits) + high.1.toNat * 2 ^ w.bits + low.1.toNat
       = 2 * (hi.toNat * 2 ^ w.bits + lo.toNat))
    ∧ (let high := lsr hi
       let low := ror lo high.2
       hi.toNat * 2 ^ w.bits + lo.toNat = 2 * (high.1.toNat * 2 ^ w.bits + low.1.toNat) + low.2.toNat)

/-- v takes bit MSB - 1 of the operand in BIT on memory, no other instruction writes it, and none reads it. -/
def Obligations.VIsWrittenByBitOnMemoryOnly : Prop :=
  ∀ (i : Instr) (s t : State), exec i s = .next t →
    (i.mnemonic = .BIT ∧ i.operand.mode ≠ .IMM → t.flagV = (readOp s.width i.operand s).getLsbD (s.width.msb - 1))
    ∧ (¬(i.mnemonic = .BIT ∧ i.operand.mode ≠ .IMM) → t.flagV = s.flagV)
    ∧ ∀ b : Bool, ∃ t', exec i (s.setV b) = .next t' ∧ ∀ c : Bool, t'.setV c = t.setV c

/-- c takes the bit shifted out in ASL, LSR, ROL, ROR; ROL and ROR shift the old c in; no other instruction reads or
writes it. -/
def Obligations.CIsWrittenByShiftsAndReadByRotatesOnly : Prop :=
  ∀ (i : Instr) (s t : State), exec i s = .next t →
    (i.mnemonic = .ASL ∨ i.mnemonic = .ROL → t.flagC = (readOp s.width i.operand s).getLsbD s.width.msb)
    ∧ (i.mnemonic = .LSR ∨ i.mnemonic = .ROR → t.flagC = (readOp s.width i.operand s).getLsbD 0)
    ∧ (i.mnemonic ∉ [Mnemonic.ASL, .LSR, .ROL, .ROR] → t.flagC = s.flagC)
    ∧ (i.mnemonic = .ROL → s.mem.wf = true → (Claims.operandAfter i.operand s t).getLsbD 0 = s.flagC)
    ∧ (i.mnemonic = .ROR → s.mem.wf = true → (Claims.operandAfter i.operand s t).getLsbD s.width.msb = s.flagC)
    ∧ (i.mnemonic ∉ [Mnemonic.ROL, .ROR] →
        ∀ b : Bool, ∃ t', exec i (s.setC b) = .next t' ∧ ∀ c : Bool, t'.setC c = t.setC c)

/-- z is written by every instruction and read by none (spec/10_state.md section 5). For TRB and TSB it uses the
operand as read, before the write: decision D12 (log entry 17). -/
def Obligations.ZIsWrittenByEveryInstruction : Prop :=
  ∀ (i : Instr) (s t : State), exec i s = .next t →
    (i.mnemonic ∈ [Mnemonic.AND, .EOR, .ORA] → (t.flagZ = true ↔ t.acc s.width = 0))
    ∧ (i.mnemonic ∈ [Mnemonic.ASL, .LSR, .ROL, .ROR] → s.mem.wf = true →
        (t.flagZ = true ↔ Claims.operandAfter i.operand s t = 0))
    ∧ (i.mnemonic ∈ [Mnemonic.BIT, .TRB, .TSB] →
        (t.flagZ = true ↔ s.acc s.width &&& readOp s.width i.operand s = 0))
    ∧ ∀ b : Bool, exec i (s.setZ b) = .next t

/-- W is 16 on the 65816 with m = 0 and 8 otherwise; MSB is W - 1 and MASK is 2^W - 1. -/
def Obligations.WidthIsSixteenOnlyOnThe65816WithMClear : Prop :=
  ∀ s : State,
    s.width.bits = (if s.cpu = .cpu65816 ∧ s.flagM = false then 16 else 8)
    ∧ s.width.msb = s.width.bits - 1 ∧ (BitVec.allOnes s.width.bits).toNat = 2 ^ s.width.bits - 1
    ∧ (s.acc s.width).toNat = s.a.toNat % 2 ^ s.width.bits
    ∧ ∀ m : MemOperand, 8 * ((ea s m).reads s.width).length = s.width.bits
        ∧ 8 * ((ea s m).writes s.width).length = s.width.bits

/-- ReadOp: AccW in mode ACC, the fetched constant in mode IMM, the bytes at ea0 and ea1 (ea0 first) otherwise
(spec/40_addressing_modes.md section 1). The byte order is decision D5, the order of reads D30 (log entries 9, 25). -/
def Obligations.ReadOpReadsTheOperandOfItsMode : Prop :=
  ∀ (s : State) (w : Width) (op b1 b2 : Byte) (k : Word) (m : MemOperand) (rest : List Byte) (i : Instr),
    (readOp w .acc s).toNat = s.a.toNat % 2 ^ w.bits
    ∧ (decode w (op :: b1 :: b2 :: rest) = .ok (i, (if w = .w8 then [b2] else []) ++ rest) → i.operand = .imm k →
        (readOp w (.imm k) s).toNat = if w = .w8 then b1.toNat else b2.toNat * 2 ^ 8 + b1.toNat)
    ∧ (readOp w (.mem m) s).toNat =
        (if w = .w8 then (s.readByte (ea s m).ea0).toNat
         else (s.readByte (ea s m).ea1).toNat * 2 ^ 8 + (s.readByte (ea s m).ea0).toNat)
    ∧ (ea s m).reads w = (if w = .w8 then [(ea s m).ea0] else [(ea s m).ea0, (ea s m).ea1])

/-- The effective addresses of the 6502 and 65C02 (spec/40_addressing_modes.md section 2): the spec's own general
knowledge, decision D7 (log entry 11), with little-endian pointers (log entry 9). -/
def Obligations.EffectiveAddressesOnThe6502And65C02 : Prop :=
  ∀ (s : State) (a : Word) (b : Byte), s.cpu ≠ .cpu65816 → s.registersWf = true →
    (ea s (.abs a)).ea0.toNat = a.toNat
    ∧ (ea s (.dp b)).ea0.toNat = b.toNat
    ∧ (ea s (.dpInd b)).ea0.toNat = Claims.pointerZpAt s b.toNat
    ∧ (ea s (.absX a)).ea0.toNat = (a.toNat + s.x.toNat) % 2 ^ 16
    ∧ (ea s (.absY a)).ea0.toNat = (a.toNat + s.y.toNat) % 2 ^ 16
    ∧ (ea s (.dpX b)).ea0.toNat = (b.toNat + s.x.toNat) % 256
    ∧ (ea s (.dpXInd b)).ea0.toNat = Claims.pointerZpAt s ((b.toNat + s.x.toNat) % 256)
    ∧ (ea s (.dpIndY b)).ea0.toNat = (Claims.pointerZpAt s b.toNat + s.y.toNat) % 2 ^ 16

/-- The effective addresses of the 65816 in native mode (spec/40_addressing_modes.md section 2): the spec's own
general knowledge, decision D7 (log entry 11), with little-endian pointers (log entry 9). -/
def Obligations.EffectiveAddressesOnThe65816 : Prop :=
  ∀ (s : State) (a : Word) (l : Addr) (b : Byte), s.cpu = .cpu65816 →
    let bank := s.dbr.toNat * 2 ^ 16
    let dp := (s.d.toNat + b.toNat) % 2 ^ 16
    let dpx := (s.d.toNat + b.toNat + s.x.toNat) % 2 ^ 16
    let sr := (s.sp.toNat + b.toNat) % 2 ^ 16
    (ea s (.abs a)).ea0.toNat = bank + a.toNat
    ∧ (ea s (.long l)).ea0.toNat = l.toNat
    ∧ (ea s (.dp b)).ea0.toNat = dp
    ∧ (ea s (.dpInd b)).ea0.toNat = bank + Claims.pointer16At s dp
    ∧ (ea s (.dpIndL b)).ea0.toNat = Claims.pointer24At s dp
    ∧ (ea s (.absX a)).ea0.toNat = (bank + a.toNat + s.x.toNat) % 2 ^ 24
    ∧ (ea s (.longX l)).ea0.toNat = (l.toNat + s.x.toNat) % 2 ^ 24
    ∧ (ea s (.absY a)).ea0.toNat = (bank + a.toNat + s.y.toNat) % 2 ^ 24
    ∧ (ea s (.dpX b)).ea0.toNat = dpx
    ∧ (ea s (.dpXInd b)).ea0.toNat = bank + Claims.pointer16At s dpx
    ∧ (ea s (.dpIndY b)).ea0.toNat = (bank + Claims.pointer16At s dp + s.y.toNat) % 2 ^ 24
    ∧ (ea s (.dpIndLY b)).ea0.toNat = (Claims.pointer24At s dp + s.y.toNat) % 2 ^ 24
    ∧ (ea s (.sr b)).ea0.toNat = sr
    ∧ (ea s (.srIndY b)).ea0.toNat = (bank + Claims.pointer16At s sr + s.y.toNat) % 2 ^ 24

/-- Where the second byte of a 16-bit operand lies (spec/40_addressing_modes.md section 1): the spec's own general
knowledge GK10 (log entry 11). -/
def Obligations.SecondByteOfA16BitOperand : Prop :=
  ∀ (s : State) (m : MemOperand), s.cpu = .cpu65816 →
    ((Operand.mem m).mode ∈ [Mode.DP, .DPX, .SR] →
      (ea s m).ea0.toNat < 2 ^ 16 ∧ (ea s m).ea1.toNat = ((ea s m).ea0.toNat + 1) % 2 ^ 16)
    ∧ ((Operand.mem m).mode ∉ [Mode.DP, .DPX, .SR] → (ea s m).ea1.toNat = ((ea s m).ea0.toNat + 1) % 2 ^ 24)
    ∧ (ea s m).ea1 ≠ (ea s m).ea0

/-- A store is little-endian and is seen by later reads and fetches: decisions D5, D19, D20 (log entries 9, 23, 24).
-/
def Obligations.AStoreIsSeenByEveryLaterRead : Prop :=
  ∀ (s : State) (e : EA) (w : Width) (v : BitVec w.bits), s.mem.wf = true → e.ea1 ≠ e.ea0 →
    ((writeMem s e w v).readByte e.ea0).toNat = v.toNat % 2 ^ 8
    ∧ (w = .w16 → ((writeMem s e w v).readByte e.ea1).toNat = v.toNat / 2 ^ 8)
    ∧ ∀ k, (s.fetchAddr k = e.ea0 → ((writeMem s e w v).fetch8 k).toNat = v.toNat % 2 ^ 8)
        ∧ (w = .w16 → s.fetchAddr k = e.ea1 → ((writeMem s e w v).fetch8 k).toNat = v.toNat / 2 ^ 8)

/-- Emulation mode is refused (spec/60_exceptions.md section 7): decision D8 (log entry 3). -/
def Obligations.EmulationModeIsRefused : Prop :=
  ∀ s : State, s.cpu = .cpu65816 → s.e = true →
    step s = .refused .emulationMode ∧ ∀ i : Instr, exec i s = .refused .emulationMode

/-- An instruction its processor lacks is refused (spec/30_encoding.md section 4). The two-mark rows are the 65C02's
by general knowledge (D2, log entry 12), the refusal is decision D4 (log entry 21). -/
def Obligations.UnavailableInstructionsAreRefused : Prop :=
  ∀ (i : Instr) (s : State), s.emulating = false →
    (exec i s = .refused (.notAvailableOnCpu i.opcode s.cpu) ↔
      (i.opcode ∈ Claims.oneMarkOpcodes ∧ s.cpu ≠ .cpu65816) ∨ (i.opcode ∈ Claims.twoMarkOpcodes ∧ s.cpu = .cpu6502))
    ∧ (∀ rest, s.admits (s.fetchAddr 0) = true → decode s.width s.fetchWindow = .ok (i, rest) → s.cpu ∉ i.cpus →
        step s = .refused (.notAvailableOnCpu (s.fetch8 0) s.cpu))

/-- An opcode byte outside the 74 rows is refused (spec/30_encoding.md section 6): decision D3 (log entry 20). -/
def Obligations.UnlistedOpcodesAreRefused : Prop :=
  ∀ s : State, s.emulating = false → s.admits (s.fetchAddr 0) = true →
    (∀ row ∈ Claims.opcodeRows, row.1 ≠ s.fetch8 0) → step s = .refused (.unknownOpcode (s.fetch8 0))

/-- An access outside mem_admit refuses the instruction (spec/20_memory.md section 4): decision D17, in the access
order of D30 (log entries 2, 25). -/
def Obligations.AccessesOutsidePlainMemoryAreRefused : Prop :=
  ∀ (i : Instr) (s : State), s.emulating = false → s.cpu ∈ i.cpus →
    (∀ a : Addr, exec i s = .refused (.memNotAdmitted a) ↔
      ∃ before after : List Addr, Claims.touched i s = before ++ a :: after ∧ s.admits a = false
        ∧ ∀ b ∈ before, s.admits b = true)
    ∧ ((∃ t, exec i s = .next t) ↔ ∀ a ∈ Claims.touched i s, s.admits a = true)

/-- A step ends in a next state or in a refusal of the closed list (spec/60_exceptions.md section 7): decisions D3,
D4, D8, D17, D21 (log entries 2, 3, 20, 21, 33). -/
def Obligations.EveryOutcomeIsANextStateOrAListedRefusal : Prop :=
  ∀ (s : State) (i : Instr),
    ((∃ t, step s = .next t) ∨ (∃ op, step s = .refused (.unknownOpcode op))
      ∨ (∃ op c, step s = .refused (.notAvailableOnCpu op c)) ∨ (∃ a, step s = .refused (.memNotAdmitted a))
      ∨ step s = .refused .emulationMode)
    ∧ ((∃ t, exec i s = .next t) ∨ (∃ op c, exec i s = .refused (.notAvailableOnCpu op c))
      ∨ (∃ a, exec i s = .refused (.memNotAdmitted a)) ∨ exec i s = .refused .emulationMode)

/-- Every step keeps State.wf. The canonical form and the 16-bit fields are the model's (log entries 6, 8); the widths
are the spec's general knowledge GK6 (log entries 10, 28). -/
def Obligations.EveryStepKeepsTheInvariant : Prop :=
  ∀ s t : State, s.wf = true → step s = .next t → t.wf = true

/-- The model's reset state meets the invariant: its values are the model's choice (log entries 1 to 6), for the spec
gives none. -/
def Obligations.ResetMeetsTheInvariant : Prop :=
  State.reset.wf = true ∧ State.reset.mem = []

/-- The model's reset values, by log entries 1 to 5: the model's choice, for the spec gives none. -/
def Obligations.ResetHoldsTheValuesTheModelNames : Prop :=
  State.reset.cpu = .cpu65816 ∧ State.reset.emulating = false ∧ (∀ a : Addr, State.reset.admits a = true)
    ∧ State.reset.a = 0 ∧ State.reset.x = 0 ∧ State.reset.y = 0 ∧ State.reset.sp = 0x0100 ∧ State.reset.d = 0
    ∧ State.reset.dbr = 0 ∧ State.reset.pbr = 0 ∧ State.reset.pc = 0 ∧ State.reset.p = 0x34
    ∧ State.reset.width = .w8

/-- No step changes the registers and flag bits no instruction writes (spec/10_state.md section 8, derived there).
P[5:2] rests on D13 and D28 (log entries 14, 27). -/
def Obligations.NoStepChangesTheOtherRegisters : Prop :=
  ∀ s t : State, step s = .next t → Claims.SameRest s t ∧ t.flagM = s.flagM ∧ t.width = s.width

/-- What an instruction may change, over all 74 (spec/10_state.md section 8, derived there). Rests on D9, D13, D15
(log entries 14, 18, 19). -/
def Obligations.OnlyTheDestinationChanges : Prop :=
  ∀ (i : Instr) (s t : State), exec i s = .next t →
    (i.mnemonic ∉ [Mnemonic.AND, .EOR, .ORA] → i.operand ≠ .acc → t.a = s.a)
    ∧ (∀ j, s.width.bits ≤ j → t.a.getLsbD j = s.a.getLsbD j)
    ∧ Claims.SameBytesOutside s t (Claims.storedAddrs i s) ∧ Claims.Advanced i s t

/-- How a run ends (spec/70_reset_and_hazards.md section 2): decision D24 (log entry 30). -/
def Obligations.AFinishedRunEndsAtEndPcWithTheLaunchWidth : Prop :=
  ∀ (endPbr : Byte) (endPc : Word) (fuel : Nat) (s : State),
    (∀ t, runTo endPbr endPc fuel s = .finished t →
      t.pc = endPc ∧ (s.cpu = .cpu65816 → t.pbr = endPbr) ∧ Claims.SameRest s t ∧ t.width = s.width
        ∧ (s.wf = true → t.wf = true))
    ∧ (s.finished endPbr endPc = true → runTo endPbr endPc fuel s = .finished s)
    ∧ (∀ r, s.finished endPbr endPc = false → step s = .refused r → runTo endPbr endPc (fuel + 1) s = .refused r)

/-- With W = 8 the high byte of A is neither read nor changed (spec/10_state.md section 2): decision D9 (log entry
18). -/
def Obligations.TheHighByteOfAIsNeitherReadNorChangedAtWidth8 : Prop :=
  ∀ (i : Instr) (s t : State) (h : Byte), s.width = .w8 → exec i s = .next t →
    exec i { s with a := h ++ s.a.setWidth 8 } = .next { t with a := h ++ t.a.setWidth 8 }

/-- The bits x, d, i of P are inert (spec/10_state.md section 5): decisions D8 and D28 (log entries 27, 28). -/
def Obligations.TheBitsDIXOfPAreNeverRead : Prop :=
  ∀ (s t : State) (k : Nat) (b : Bool), k = 2 ∨ k = 3 ∨ k = 4 → step s = .next t →
    step { s with p := putBit s.p k b } = .next { t with p := putBit t.p k b }

/-- What lies outside mem_admit is neither observed nor changed by a step that completes (spec/20_memory.md section
4): decision D17 (log entry 2). -/
def Obligations.BytesOutsidePlainMemoryAreNeverObserved : Prop :=
  ∀ (s t : State) (a : Addr) (v : Byte), s.mem.wf = true → s.admits a = false → step s = .next t →
    ∃ t', step (s.writeByte a v) = .next t' ∧ { t' with mem := t.mem } = t ∧ t'.readByte a = v
      ∧ t.readByte a = s.readByte a ∧ ∀ b : Addr, b ≠ a → t'.readByte b = t.readByte b
end

