-- ==== Sys2Proof/Laws/Bytes.lean ====
section
/-! SUPPORT. Taking a value apart into bytes and putting it together again (R41). -/

namespace Sys2Proof

/-- Bit `j` of byte `k` is bit `8 * k + j` of the value. -/
theorem byteOf_getLsbD {n : Nat} (k : Nat) (v : BitVec n) (j : Nat) :
    (byteOf k v).getLsbD j = (decide (j < 8) && v.getLsbD (8 * k + j)) := by
  simp [byteOf, BitVec.getLsbD_extractLsb']

/-- A 16-bit value is its high byte and its low byte. -/
theorem byteOf_one_append_byteOf_zero (v : Word) : byteOf 1 v ++ byteOf 0 v = v := by
  apply BitVec.eq_of_getLsbD_eq
  intro j hj
  rw [BitVec.getLsbD_append, byteOf_getLsbD, byteOf_getLsbD]
  by_cases h : j < 8
  · simp [h]
  · have h8 : j - 8 < 8 := by omega
    have hj8 : 8 + (j - 8) = j := by omega
    simp [h, h8, hj8]

theorem assemble16_bytes (a : Word) : assemble16 (byteOf 0 a) (byteOf 1 a) = a := byteOf_one_append_byteOf_zero a

theorem assemble24_bytes (a : Addr) : assemble24 (byteOf 0 a) (byteOf 1 a) (byteOf 2 a) = a := by
  apply BitVec.eq_of_getLsbD_eq
  intro j hj
  unfold assemble24
  rw [BitVec.getLsbD_append, BitVec.getLsbD_append, byteOf_getLsbD, byteOf_getLsbD, byteOf_getLsbD]
  by_cases h : j < 8
  · simp [h]
  · by_cases h2 : j - 8 < 8
    · have hj8 : 8 + (j - 8) = j := by omega
      simp [h, h2, hj8]
    · have h3 : j - 8 - 8 < 8 := by omega
      have hj16 : 16 + (j - 8 - 8) = j := by omega
      simp [h, h2, h3, hj16]

theorem assembleConst_w8 (k : Word) (h : constFits .w8 k = true) (b : Byte) : assembleConst .w8 (byteOf 0 k) b = k := by
  have hk : k.toNat < 256 := by simpa [constFits] using h
  apply BitVec.eq_of_toNat_eq
  simp [assembleConst, byteOf, BitVec.extractLsb'_toNat, Nat.mod_eq_of_lt hk]
  omega

end Sys2Proof
end

