-- ==== Sys2Proof/Laws/State.lean ====
section
/-! SUPPORT. What each update of the state does to each field: one lemma per field and update. -/

namespace Sys2Proof.Machine

/-! ### setAcc -/

@[simp] theorem State.setAcc_cpu (s : State) (w : Width) (v : BitVec w.bits) : (s.setAcc w v).cpu = s.cpu := by cases w <;> rfl

@[simp] theorem State.setAcc_admit (s : State) (w : Width) (v : BitVec w.bits) : (s.setAcc w v).memAdmit = s.memAdmit := by cases w <;> rfl

@[simp] theorem State.setAcc_e (s : State) (w : Width) (v : BitVec w.bits) : (s.setAcc w v).e = s.e := by cases w <;> rfl

@[simp] theorem State.setAcc_x (s : State) (w : Width) (v : BitVec w.bits) : (s.setAcc w v).x = s.x := by cases w <;> rfl

@[simp] theorem State.setAcc_y (s : State) (w : Width) (v : BitVec w.bits) : (s.setAcc w v).y = s.y := by cases w <;> rfl

@[simp] theorem State.setAcc_sp (s : State) (w : Width) (v : BitVec w.bits) : (s.setAcc w v).sp = s.sp := by cases w <;> rfl

@[simp] theorem State.setAcc_d (s : State) (w : Width) (v : BitVec w.bits) : (s.setAcc w v).d = s.d := by cases w <;> rfl

@[simp] theorem State.setAcc_dbr (s : State) (w : Width) (v : BitVec w.bits) : (s.setAcc w v).dbr = s.dbr := by cases w <;> rfl

@[simp] theorem State.setAcc_pbr (s : State) (w : Width) (v : BitVec w.bits) : (s.setAcc w v).pbr = s.pbr := by cases w <;> rfl

@[simp] theorem State.setAcc_pc (s : State) (w : Width) (v : BitVec w.bits) : (s.setAcc w v).pc = s.pc := by cases w <;> rfl

@[simp] theorem State.setAcc_p (s : State) (w : Width) (v : BitVec w.bits) : (s.setAcc w v).p = s.p := by cases w <;> rfl

@[simp] theorem State.setAcc_mem (s : State) (w : Width) (v : BitVec w.bits) : (s.setAcc w v).mem = s.mem := by cases w <;> rfl

/-! ### writeByte -/

@[simp] theorem State.writeByte_cpu (s : State) (b : Addr) (v : Byte) : (s.writeByte b v).cpu = s.cpu := rfl

@[simp] theorem State.writeByte_admit (s : State) (b : Addr) (v : Byte) : (s.writeByte b v).memAdmit = s.memAdmit := rfl

@[simp] theorem State.writeByte_e (s : State) (b : Addr) (v : Byte) : (s.writeByte b v).e = s.e := rfl

@[simp] theorem State.writeByte_a (s : State) (b : Addr) (v : Byte) : (s.writeByte b v).a = s.a := rfl

@[simp] theorem State.writeByte_x (s : State) (b : Addr) (v : Byte) : (s.writeByte b v).x = s.x := rfl

@[simp] theorem State.writeByte_y (s : State) (b : Addr) (v : Byte) : (s.writeByte b v).y = s.y := rfl

@[simp] theorem State.writeByte_sp (s : State) (b : Addr) (v : Byte) : (s.writeByte b v).sp = s.sp := rfl

@[simp] theorem State.writeByte_d (s : State) (b : Addr) (v : Byte) : (s.writeByte b v).d = s.d := rfl

@[simp] theorem State.writeByte_dbr (s : State) (b : Addr) (v : Byte) : (s.writeByte b v).dbr = s.dbr := rfl

@[simp] theorem State.writeByte_pbr (s : State) (b : Addr) (v : Byte) : (s.writeByte b v).pbr = s.pbr := rfl

@[simp] theorem State.writeByte_pc (s : State) (b : Addr) (v : Byte) : (s.writeByte b v).pc = s.pc := rfl

@[simp] theorem State.writeByte_p (s : State) (b : Addr) (v : Byte) : (s.writeByte b v).p = s.p := rfl

@[simp] theorem State.writeByte_mem (s : State) (b : Addr) (v : Byte) : (s.writeByte b v).mem = s.mem.write b.toNat v := rfl

/-! ### advance -/

@[simp] theorem State.advance_cpu (s : State) (len : Nat) : (s.advance len).cpu = s.cpu := rfl

@[simp] theorem State.advance_admit (s : State) (len : Nat) : (s.advance len).memAdmit = s.memAdmit := rfl

@[simp] theorem State.advance_e (s : State) (len : Nat) : (s.advance len).e = s.e := rfl

@[simp] theorem State.advance_a (s : State) (len : Nat) : (s.advance len).a = s.a := rfl

@[simp] theorem State.advance_x (s : State) (len : Nat) : (s.advance len).x = s.x := rfl

@[simp] theorem State.advance_y (s : State) (len : Nat) : (s.advance len).y = s.y := rfl

@[simp] theorem State.advance_sp (s : State) (len : Nat) : (s.advance len).sp = s.sp := rfl

@[simp] theorem State.advance_d (s : State) (len : Nat) : (s.advance len).d = s.d := rfl

@[simp] theorem State.advance_dbr (s : State) (len : Nat) : (s.advance len).dbr = s.dbr := rfl

@[simp] theorem State.advance_pbr (s : State) (len : Nat) : (s.advance len).pbr = s.pbr := rfl

@[simp] theorem State.advance_pc (s : State) (len : Nat) : (s.advance len).pc = s.pc + BitVec.ofNat 16 len := rfl

@[simp] theorem State.advance_p (s : State) (len : Nat) : (s.advance len).p = s.p := rfl

@[simp] theorem State.advance_mem (s : State) (len : Nat) : (s.advance len).mem = s.mem := rfl

/-! ### setN -/

@[simp] theorem State.setN_cpu (s : State) (b : Bool) : (s.setN b).cpu = s.cpu := rfl

@[simp] theorem State.setN_admit (s : State) (b : Bool) : (s.setN b).memAdmit = s.memAdmit := rfl

@[simp] theorem State.setN_e (s : State) (b : Bool) : (s.setN b).e = s.e := rfl

@[simp] theorem State.setN_a (s : State) (b : Bool) : (s.setN b).a = s.a := rfl

@[simp] theorem State.setN_x (s : State) (b : Bool) : (s.setN b).x = s.x := rfl

@[simp] theorem State.setN_y (s : State) (b : Bool) : (s.setN b).y = s.y := rfl

@[simp] theorem State.setN_sp (s : State) (b : Bool) : (s.setN b).sp = s.sp := rfl

@[simp] theorem State.setN_d (s : State) (b : Bool) : (s.setN b).d = s.d := rfl

@[simp] theorem State.setN_dbr (s : State) (b : Bool) : (s.setN b).dbr = s.dbr := rfl

@[simp] theorem State.setN_pbr (s : State) (b : Bool) : (s.setN b).pbr = s.pbr := rfl

@[simp] theorem State.setN_pc (s : State) (b : Bool) : (s.setN b).pc = s.pc := rfl

@[simp] theorem State.setN_p (s : State) (b : Bool) : (s.setN b).p = putBit s.p 7 b := rfl

@[simp] theorem State.setN_mem (s : State) (b : Bool) : (s.setN b).mem = s.mem := rfl

/-! ### setV -/

@[simp] theorem State.setV_cpu (s : State) (b : Bool) : (s.setV b).cpu = s.cpu := rfl

@[simp] theorem State.setV_admit (s : State) (b : Bool) : (s.setV b).memAdmit = s.memAdmit := rfl

@[simp] theorem State.setV_e (s : State) (b : Bool) : (s.setV b).e = s.e := rfl

@[simp] theorem State.setV_a (s : State) (b : Bool) : (s.setV b).a = s.a := rfl

@[simp] theorem State.setV_x (s : State) (b : Bool) : (s.setV b).x = s.x := rfl

@[simp] theorem State.setV_y (s : State) (b : Bool) : (s.setV b).y = s.y := rfl

@[simp] theorem State.setV_sp (s : State) (b : Bool) : (s.setV b).sp = s.sp := rfl

@[simp] theorem State.setV_d (s : State) (b : Bool) : (s.setV b).d = s.d := rfl

@[simp] theorem State.setV_dbr (s : State) (b : Bool) : (s.setV b).dbr = s.dbr := rfl

@[simp] theorem State.setV_pbr (s : State) (b : Bool) : (s.setV b).pbr = s.pbr := rfl

@[simp] theorem State.setV_pc (s : State) (b : Bool) : (s.setV b).pc = s.pc := rfl

@[simp] theorem State.setV_p (s : State) (b : Bool) : (s.setV b).p = putBit s.p 6 b := rfl

@[simp] theorem State.setV_mem (s : State) (b : Bool) : (s.setV b).mem = s.mem := rfl

/-! ### setZ -/

@[simp] theorem State.setZ_cpu (s : State) (b : Bool) : (s.setZ b).cpu = s.cpu := rfl

@[simp] theorem State.setZ_admit (s : State) (b : Bool) : (s.setZ b).memAdmit = s.memAdmit := rfl

@[simp] theorem State.setZ_e (s : State) (b : Bool) : (s.setZ b).e = s.e := rfl

@[simp] theorem State.setZ_a (s : State) (b : Bool) : (s.setZ b).a = s.a := rfl

@[simp] theorem State.setZ_x (s : State) (b : Bool) : (s.setZ b).x = s.x := rfl

@[simp] theorem State.setZ_y (s : State) (b : Bool) : (s.setZ b).y = s.y := rfl

@[simp] theorem State.setZ_sp (s : State) (b : Bool) : (s.setZ b).sp = s.sp := rfl

@[simp] theorem State.setZ_d (s : State) (b : Bool) : (s.setZ b).d = s.d := rfl

@[simp] theorem State.setZ_dbr (s : State) (b : Bool) : (s.setZ b).dbr = s.dbr := rfl

@[simp] theorem State.setZ_pbr (s : State) (b : Bool) : (s.setZ b).pbr = s.pbr := rfl

@[simp] theorem State.setZ_pc (s : State) (b : Bool) : (s.setZ b).pc = s.pc := rfl

@[simp] theorem State.setZ_p (s : State) (b : Bool) : (s.setZ b).p = putBit s.p 1 b := rfl

@[simp] theorem State.setZ_mem (s : State) (b : Bool) : (s.setZ b).mem = s.mem := rfl

/-! ### setC -/

@[simp] theorem State.setC_cpu (s : State) (b : Bool) : (s.setC b).cpu = s.cpu := rfl

@[simp] theorem State.setC_admit (s : State) (b : Bool) : (s.setC b).memAdmit = s.memAdmit := rfl

@[simp] theorem State.setC_e (s : State) (b : Bool) : (s.setC b).e = s.e := rfl

@[simp] theorem State.setC_a (s : State) (b : Bool) : (s.setC b).a = s.a := rfl

@[simp] theorem State.setC_x (s : State) (b : Bool) : (s.setC b).x = s.x := rfl

@[simp] theorem State.setC_y (s : State) (b : Bool) : (s.setC b).y = s.y := rfl

@[simp] theorem State.setC_sp (s : State) (b : Bool) : (s.setC b).sp = s.sp := rfl

@[simp] theorem State.setC_d (s : State) (b : Bool) : (s.setC b).d = s.d := rfl

@[simp] theorem State.setC_dbr (s : State) (b : Bool) : (s.setC b).dbr = s.dbr := rfl

@[simp] theorem State.setC_pbr (s : State) (b : Bool) : (s.setC b).pbr = s.pbr := rfl

@[simp] theorem State.setC_pc (s : State) (b : Bool) : (s.setC b).pc = s.pc := rfl

@[simp] theorem State.setC_p (s : State) (b : Bool) : (s.setC b).p = putBit s.p 0 b := rfl

@[simp] theorem State.setC_mem (s : State) (b : Bool) : (s.setC b).mem = s.mem := rfl

/-! ### The accumulator operand (R11) -/

/-- The bits of `A` after a write of `AccW`: the written value below W, the old bits above. -/
theorem State.setAcc_getLsbD (s : State) (w : Width) (v : BitVec w.bits) (j : Nat) :
    (s.setAcc w v).a.getLsbD j = if j < w.bits then v.getLsbD j else s.a.getLsbD j := by
  cases w
  · simp only [State.setAcc, Width.bits, BitVec.getLsbD_append]
    by_cases h : j < 8
    · simp [h]
    · have h8 : 8 ≤ j := Nat.le_of_not_lt h
      by_cases h16 : j - 8 < 8
      · simp [h, h16, h8]
      · have hge : s.a.getLsbD j = false := BitVec.getLsbD_of_ge _ _ (by omega)
        simp [h, h16, hge]
  · by_cases h : j < 16
    · simp [State.setAcc, Width.bits, h]
    · have hv : v.getLsbD j = false := BitVec.getLsbD_of_ge _ _ (by simpa using h)
      have hs : s.a.getLsbD j = false := BitVec.getLsbD_of_ge _ _ (by omega)
      simp [State.setAcc, Width.bits, h, hs, hv]

@[simp] theorem State.acc_setAcc (s : State) (w : Width) (v : BitVec w.bits) : (s.setAcc w v).acc w = v := by
  apply BitVec.eq_of_getLsbD_eq
  intro j hj
  simp [State.acc, State.setAcc_getLsbD, hj]

end Sys2Proof.Machine
end

