-- ==== Sys2Proof/Laws/Flags.lean ====
section
/-! SUPPORT. What each flag update does to each flag (R18 to R25), and the flag computations said once. -/

namespace Sys2Proof.Machine

/-- Bit `j` of a status byte after bit `k` is set to `b`. -/
theorem putBit_getLsbD (p : Byte) (k : Nat) (b : Bool) (j : Nat) (hk : k < 8) :
    (putBit p k b).getLsbD j = if j = k then b else p.getLsbD j := by
  unfold putBit
  cases b
  · simp only [Bool.false_eq_true, if_false, BitVec.getLsbD_and, BitVec.getLsbD_not, BitVec.getLsbD_twoPow]
    by_cases hjk : j = k
    · simp [hjk]
    · have hkj : ¬ k = j := fun h => hjk h.symm
      by_cases hj : j < 8
      · simp [hjk, hkj, hj]
      · have : p.getLsbD j = false := BitVec.getLsbD_of_ge _ _ (by omega)
        simp [hjk, this]
  · simp only [if_true, BitVec.getLsbD_or, BitVec.getLsbD_twoPow]
    by_cases hjk : j = k
    · simp [hjk, hk]
    · have hkj : ¬ k = j := fun h => hjk h.symm
      simp [hjk, hkj]

@[simp] theorem State.setN_flagN (s : State) (b : Bool) : (s.setN b).flagN = b :=
  putBit_getLsbD s.p 7 b 7 (by decide)

@[simp] theorem State.setN_flagV (s : State) (b : Bool) : (s.setN b).flagV = s.flagV :=
  putBit_getLsbD s.p 7 b 6 (by decide)

@[simp] theorem State.setN_flagZ (s : State) (b : Bool) : (s.setN b).flagZ = s.flagZ :=
  putBit_getLsbD s.p 7 b 1 (by decide)

@[simp] theorem State.setN_flagC (s : State) (b : Bool) : (s.setN b).flagC = s.flagC :=
  putBit_getLsbD s.p 7 b 0 (by decide)

@[simp] theorem State.setN_flagM (s : State) (b : Bool) : (s.setN b).flagM = s.flagM :=
  putBit_getLsbD s.p 7 b 5 (by decide)

@[simp] theorem State.setN_flagsMiddle (s : State) (b : Bool) : (s.setN b).flagsMiddle = s.flagsMiddle := by
  apply BitVec.eq_of_getLsbD_eq
  intro j hj
  simp only [State.flagsMiddle, State.setN_p, BitVec.getLsbD_extractLsb', putBit_getLsbD _ _ _ _ (by decide : 7 < 8)]
  rw [if_neg (by omega : ¬ 2 + j = 7)]

@[simp] theorem State.setV_flagN (s : State) (b : Bool) : (s.setV b).flagN = s.flagN :=
  putBit_getLsbD s.p 6 b 7 (by decide)

@[simp] theorem State.setV_flagV (s : State) (b : Bool) : (s.setV b).flagV = b :=
  putBit_getLsbD s.p 6 b 6 (by decide)

@[simp] theorem State.setV_flagZ (s : State) (b : Bool) : (s.setV b).flagZ = s.flagZ :=
  putBit_getLsbD s.p 6 b 1 (by decide)

@[simp] theorem State.setV_flagC (s : State) (b : Bool) : (s.setV b).flagC = s.flagC :=
  putBit_getLsbD s.p 6 b 0 (by decide)

@[simp] theorem State.setV_flagM (s : State) (b : Bool) : (s.setV b).flagM = s.flagM :=
  putBit_getLsbD s.p 6 b 5 (by decide)

@[simp] theorem State.setV_flagsMiddle (s : State) (b : Bool) : (s.setV b).flagsMiddle = s.flagsMiddle := by
  apply BitVec.eq_of_getLsbD_eq
  intro j hj
  simp only [State.flagsMiddle, State.setV_p, BitVec.getLsbD_extractLsb', putBit_getLsbD _ _ _ _ (by decide : 6 < 8)]
  rw [if_neg (by omega : ¬ 2 + j = 6)]

@[simp] theorem State.setZ_flagN (s : State) (b : Bool) : (s.setZ b).flagN = s.flagN :=
  putBit_getLsbD s.p 1 b 7 (by decide)

@[simp] theorem State.setZ_flagV (s : State) (b : Bool) : (s.setZ b).flagV = s.flagV :=
  putBit_getLsbD s.p 1 b 6 (by decide)

@[simp] theorem State.setZ_flagZ (s : State) (b : Bool) : (s.setZ b).flagZ = b :=
  putBit_getLsbD s.p 1 b 1 (by decide)

@[simp] theorem State.setZ_flagC (s : State) (b : Bool) : (s.setZ b).flagC = s.flagC :=
  putBit_getLsbD s.p 1 b 0 (by decide)

@[simp] theorem State.setZ_flagM (s : State) (b : Bool) : (s.setZ b).flagM = s.flagM :=
  putBit_getLsbD s.p 1 b 5 (by decide)

@[simp] theorem State.setZ_flagsMiddle (s : State) (b : Bool) : (s.setZ b).flagsMiddle = s.flagsMiddle := by
  apply BitVec.eq_of_getLsbD_eq
  intro j hj
  simp only [State.flagsMiddle, State.setZ_p, BitVec.getLsbD_extractLsb', putBit_getLsbD _ _ _ _ (by decide : 1 < 8)]
  rw [if_neg (by omega : ¬ 2 + j = 1)]

@[simp] theorem State.setC_flagN (s : State) (b : Bool) : (s.setC b).flagN = s.flagN :=
  putBit_getLsbD s.p 0 b 7 (by decide)

@[simp] theorem State.setC_flagV (s : State) (b : Bool) : (s.setC b).flagV = s.flagV :=
  putBit_getLsbD s.p 0 b 6 (by decide)

@[simp] theorem State.setC_flagZ (s : State) (b : Bool) : (s.setC b).flagZ = s.flagZ :=
  putBit_getLsbD s.p 0 b 1 (by decide)

@[simp] theorem State.setC_flagC (s : State) (b : Bool) : (s.setC b).flagC = b :=
  putBit_getLsbD s.p 0 b 0 (by decide)

@[simp] theorem State.setC_flagM (s : State) (b : Bool) : (s.setC b).flagM = s.flagM :=
  putBit_getLsbD s.p 0 b 5 (by decide)

@[simp] theorem State.setC_flagsMiddle (s : State) (b : Bool) : (s.setC b).flagsMiddle = s.flagsMiddle := by
  apply BitVec.eq_of_getLsbD_eq
  intro j hj
  simp only [State.flagsMiddle, State.setC_p, BitVec.getLsbD_extractLsb', putBit_getLsbD _ _ _ _ (by decide : 0 < 8)]
  rw [if_neg (by omega : ¬ 2 + j = 0)]

@[simp] theorem State.setAcc_flagN (s : State) (w : Width) (v : BitVec w.bits) : (s.setAcc w v).flagN = s.flagN := by simp [State.flagN]

@[simp] theorem State.setAcc_flagV (s : State) (w : Width) (v : BitVec w.bits) : (s.setAcc w v).flagV = s.flagV := by simp [State.flagV]

@[simp] theorem State.setAcc_flagZ (s : State) (w : Width) (v : BitVec w.bits) : (s.setAcc w v).flagZ = s.flagZ := by simp [State.flagZ]

@[simp] theorem State.setAcc_flagC (s : State) (w : Width) (v : BitVec w.bits) : (s.setAcc w v).flagC = s.flagC := by simp [State.flagC]

@[simp] theorem State.setAcc_flagM (s : State) (w : Width) (v : BitVec w.bits) : (s.setAcc w v).flagM = s.flagM := by simp [State.flagM]

@[simp] theorem State.setAcc_flagsMiddle (s : State) (w : Width) (v : BitVec w.bits) : (s.setAcc w v).flagsMiddle = s.flagsMiddle := by simp [State.flagsMiddle]

@[simp] theorem State.writeByte_flagN (s : State) (b : Addr) (v : Byte) : (s.writeByte b v).flagN = s.flagN := by simp [State.flagN]

@[simp] theorem State.writeByte_flagV (s : State) (b : Addr) (v : Byte) : (s.writeByte b v).flagV = s.flagV := by simp [State.flagV]

@[simp] theorem State.writeByte_flagZ (s : State) (b : Addr) (v : Byte) : (s.writeByte b v).flagZ = s.flagZ := by simp [State.flagZ]

@[simp] theorem State.writeByte_flagC (s : State) (b : Addr) (v : Byte) : (s.writeByte b v).flagC = s.flagC := by simp [State.flagC]

@[simp] theorem State.writeByte_flagM (s : State) (b : Addr) (v : Byte) : (s.writeByte b v).flagM = s.flagM := by simp [State.flagM]

@[simp] theorem State.writeByte_flagsMiddle (s : State) (b : Addr) (v : Byte) : (s.writeByte b v).flagsMiddle = s.flagsMiddle := by simp [State.flagsMiddle]

@[simp] theorem State.advance_flagN (s : State) (len : Nat) : (s.advance len).flagN = s.flagN := by simp [State.flagN]

@[simp] theorem State.advance_flagV (s : State) (len : Nat) : (s.advance len).flagV = s.flagV := by simp [State.flagV]

@[simp] theorem State.advance_flagZ (s : State) (len : Nat) : (s.advance len).flagZ = s.flagZ := by simp [State.flagZ]

@[simp] theorem State.advance_flagC (s : State) (len : Nat) : (s.advance len).flagC = s.flagC := by simp [State.flagC]

@[simp] theorem State.advance_flagM (s : State) (len : Nat) : (s.advance len).flagM = s.flagM := by simp [State.flagM]

@[simp] theorem State.advance_flagsMiddle (s : State) (len : Nat) : (s.advance len).flagsMiddle = s.flagsMiddle := by simp [State.flagsMiddle]

@[simp] theorem State.setAcc_width (s : State) (w : Width) (v : BitVec w.bits) : (s.setAcc w v).width = s.width := by simp [State.width]

@[simp] theorem State.setAcc_emulating (s : State) (w : Width) (v : BitVec w.bits) : (s.setAcc w v).emulating = s.emulating := by simp [State.emulating]

@[simp] theorem State.writeByte_width (s : State) (b : Addr) (v : Byte) : (s.writeByte b v).width = s.width := by simp [State.width]

@[simp] theorem State.writeByte_emulating (s : State) (b : Addr) (v : Byte) : (s.writeByte b v).emulating = s.emulating := by simp [State.emulating]

@[simp] theorem State.advance_width (s : State) (len : Nat) : (s.advance len).width = s.width := by simp [State.width]

@[simp] theorem State.advance_emulating (s : State) (len : Nat) : (s.advance len).emulating = s.emulating := by simp [State.emulating]

@[simp] theorem State.setN_width (s : State) (b : Bool) : (s.setN b).width = s.width := by simp [State.width]

@[simp] theorem State.setN_emulating (s : State) (b : Bool) : (s.setN b).emulating = s.emulating := by simp [State.emulating]

@[simp] theorem State.setV_width (s : State) (b : Bool) : (s.setV b).width = s.width := by simp [State.width]

@[simp] theorem State.setV_emulating (s : State) (b : Bool) : (s.setV b).emulating = s.emulating := by simp [State.emulating]

@[simp] theorem State.setZ_width (s : State) (b : Bool) : (s.setZ b).width = s.width := by simp [State.width]

@[simp] theorem State.setZ_emulating (s : State) (b : Bool) : (s.setZ b).emulating = s.emulating := by simp [State.emulating]

@[simp] theorem State.setC_width (s : State) (b : Bool) : (s.setC b).width = s.width := by simp [State.width]

@[simp] theorem State.setC_emulating (s : State) (b : Bool) : (s.setC b).emulating = s.emulating := by simp [State.emulating]

/-! ### The families' flags, said once -/

theorem State.flagsNZ_flags (s : State) (n : Nat) (r : BitVec n) :
    (s.flagsNZ r).flagN = r.msb ∧ (s.flagsNZ r).flagZ = (r == 0) ∧ (s.flagsNZ r).flagV = s.flagV
      ∧ (s.flagsNZ r).flagC = s.flagC ∧ (s.flagsNZ r).flagsMiddle = s.flagsMiddle := by
  simp [State.flagsNZ]

theorem State.flagZTest_flags (s : State) (n : Nat) (acc m : BitVec n) :
    (s.flagZTest acc m).flagZ = ((acc &&& m) == 0) ∧ (s.flagZTest acc m).flagN = s.flagN
      ∧ (s.flagZTest acc m).flagV = s.flagV ∧ (s.flagZTest acc m).flagC = s.flagC
      ∧ (s.flagZTest acc m).flagsMiddle = s.flagsMiddle := by
  simp [State.flagZTest]

theorem State.flagsTopBits_flags (s : State) (n : Nat) (m : BitVec n) :
    (s.flagsTopBits m).flagN = m.msb ∧ (s.flagsTopBits m).flagV = m.getLsbD (n - 2)
      ∧ (s.flagsTopBits m).flagZ = s.flagZ ∧ (s.flagsTopBits m).flagC = s.flagC
      ∧ (s.flagsTopBits m).flagsMiddle = s.flagsMiddle := by
  simp [State.flagsTopBits]

/-- The flag computations write `P` and nothing else. -/
theorem State.flagsNZ_eq (s : State) (n : Nat) (r : BitVec n) :
    s.flagsNZ r = { s with p := (s.flagsNZ r).p } := rfl

theorem State.flagZTest_eq (s : State) (n : Nat) (acc m : BitVec n) :
    s.flagZTest acc m = { s with p := (s.flagZTest acc m).p } := rfl

theorem State.flagsTopBits_eq (s : State) (n : Nat) (m : BitVec n) :
    s.flagsTopBits m = { s with p := (s.flagsTopBits m).p } := rfl

@[simp] theorem State.flagsNZ_cpu (s : State) {n : Nat} (r : BitVec n) : (s.flagsNZ r).cpu = s.cpu := rfl

@[simp] theorem State.flagsNZ_admit (s : State) {n : Nat} (r : BitVec n) : (s.flagsNZ r).memAdmit = s.memAdmit := rfl

@[simp] theorem State.flagsNZ_e (s : State) {n : Nat} (r : BitVec n) : (s.flagsNZ r).e = s.e := rfl

@[simp] theorem State.flagsNZ_a (s : State) {n : Nat} (r : BitVec n) : (s.flagsNZ r).a = s.a := rfl

@[simp] theorem State.flagsNZ_x (s : State) {n : Nat} (r : BitVec n) : (s.flagsNZ r).x = s.x := rfl

@[simp] theorem State.flagsNZ_y (s : State) {n : Nat} (r : BitVec n) : (s.flagsNZ r).y = s.y := rfl

@[simp] theorem State.flagsNZ_sp (s : State) {n : Nat} (r : BitVec n) : (s.flagsNZ r).sp = s.sp := rfl

@[simp] theorem State.flagsNZ_d (s : State) {n : Nat} (r : BitVec n) : (s.flagsNZ r).d = s.d := rfl

@[simp] theorem State.flagsNZ_dbr (s : State) {n : Nat} (r : BitVec n) : (s.flagsNZ r).dbr = s.dbr := rfl

@[simp] theorem State.flagsNZ_pbr (s : State) {n : Nat} (r : BitVec n) : (s.flagsNZ r).pbr = s.pbr := rfl

@[simp] theorem State.flagsNZ_pc (s : State) {n : Nat} (r : BitVec n) : (s.flagsNZ r).pc = s.pc := rfl

@[simp] theorem State.flagsNZ_mem (s : State) {n : Nat} (r : BitVec n) : (s.flagsNZ r).mem = s.mem := rfl

@[simp] theorem State.flagsNZ_flagM (s : State) {n : Nat} (r : BitVec n) : (s.flagsNZ r).flagM = s.flagM := by simp [State.flagsNZ]

@[simp] theorem State.flagZTest_cpu (s : State) {n : Nat} (acc m : BitVec n) : (s.flagZTest acc m).cpu = s.cpu := rfl

@[simp] theorem State.flagZTest_admit (s : State) {n : Nat} (acc m : BitVec n) : (s.flagZTest acc m).memAdmit = s.memAdmit := rfl

@[simp] theorem State.flagZTest_e (s : State) {n : Nat} (acc m : BitVec n) : (s.flagZTest acc m).e = s.e := rfl

@[simp] theorem State.flagZTest_a (s : State) {n : Nat} (acc m : BitVec n) : (s.flagZTest acc m).a = s.a := rfl

@[simp] theorem State.flagZTest_x (s : State) {n : Nat} (acc m : BitVec n) : (s.flagZTest acc m).x = s.x := rfl

@[simp] theorem State.flagZTest_y (s : State) {n : Nat} (acc m : BitVec n) : (s.flagZTest acc m).y = s.y := rfl

@[simp] theorem State.flagZTest_sp (s : State) {n : Nat} (acc m : BitVec n) : (s.flagZTest acc m).sp = s.sp := rfl

@[simp] theorem State.flagZTest_d (s : State) {n : Nat} (acc m : BitVec n) : (s.flagZTest acc m).d = s.d := rfl

@[simp] theorem State.flagZTest_dbr (s : State) {n : Nat} (acc m : BitVec n) : (s.flagZTest acc m).dbr = s.dbr := rfl

@[simp] theorem State.flagZTest_pbr (s : State) {n : Nat} (acc m : BitVec n) : (s.flagZTest acc m).pbr = s.pbr := rfl

@[simp] theorem State.flagZTest_pc (s : State) {n : Nat} (acc m : BitVec n) : (s.flagZTest acc m).pc = s.pc := rfl

@[simp] theorem State.flagZTest_mem (s : State) {n : Nat} (acc m : BitVec n) : (s.flagZTest acc m).mem = s.mem := rfl

@[simp] theorem State.flagZTest_flagM (s : State) {n : Nat} (acc m : BitVec n) : (s.flagZTest acc m).flagM = s.flagM := by simp [State.flagZTest]

@[simp] theorem State.flagsTopBits_cpu (s : State) {n : Nat} (m : BitVec n) : (s.flagsTopBits m).cpu = s.cpu := rfl

@[simp] theorem State.flagsTopBits_admit (s : State) {n : Nat} (m : BitVec n) : (s.flagsTopBits m).memAdmit = s.memAdmit := rfl

@[simp] theorem State.flagsTopBits_e (s : State) {n : Nat} (m : BitVec n) : (s.flagsTopBits m).e = s.e := rfl

@[simp] theorem State.flagsTopBits_a (s : State) {n : Nat} (m : BitVec n) : (s.flagsTopBits m).a = s.a := rfl

@[simp] theorem State.flagsTopBits_x (s : State) {n : Nat} (m : BitVec n) : (s.flagsTopBits m).x = s.x := rfl

@[simp] theorem State.flagsTopBits_y (s : State) {n : Nat} (m : BitVec n) : (s.flagsTopBits m).y = s.y := rfl

@[simp] theorem State.flagsTopBits_sp (s : State) {n : Nat} (m : BitVec n) : (s.flagsTopBits m).sp = s.sp := rfl

@[simp] theorem State.flagsTopBits_d (s : State) {n : Nat} (m : BitVec n) : (s.flagsTopBits m).d = s.d := rfl

@[simp] theorem State.flagsTopBits_dbr (s : State) {n : Nat} (m : BitVec n) : (s.flagsTopBits m).dbr = s.dbr := rfl

@[simp] theorem State.flagsTopBits_pbr (s : State) {n : Nat} (m : BitVec n) : (s.flagsTopBits m).pbr = s.pbr := rfl

@[simp] theorem State.flagsTopBits_pc (s : State) {n : Nat} (m : BitVec n) : (s.flagsTopBits m).pc = s.pc := rfl

@[simp] theorem State.flagsTopBits_mem (s : State) {n : Nat} (m : BitVec n) : (s.flagsTopBits m).mem = s.mem := rfl

@[simp] theorem State.flagsTopBits_flagM (s : State) {n : Nat} (m : BitVec n) : (s.flagsTopBits m).flagM = s.flagM := by simp [State.flagsTopBits]

end Sys2Proof.Machine
end

