-- ==== Sys2Proof/Laws/Memory.lean ====
section
/-! SUPPORT. Memory: reading after writing, the canonical form, and the bound on addresses. -/

namespace Sys2Proof.Machine

/-! ### The canonical form -/

theorem Memory.wfFrom_cons (lo : Nat) (c : Host.Cell) (m : Memory) :
    Memory.wfFrom lo (c :: m) = true ↔ lo ≤ c.1 ∧ c.2 ≠ Config.unlistedByte ∧ Memory.wfFrom (c.1 + 1) m = true := by
  simp [Memory.wfFrom, and_assoc]

theorem Memory.wfFrom_mono {lo lo' : Nat} (h : lo' ≤ lo) {m : Memory} (hm : Memory.wfFrom lo m = true) :
    Memory.wfFrom lo' m = true := by
  cases m with
  | nil => rfl
  | cons c m =>
    rw [Memory.wfFrom_cons] at hm ⊢
    exact ⟨h.trans hm.1, hm.2⟩

/-- An address below a canonical memory reads as unlisted. -/
theorem Memory.read_of_lt {lo : Nat} {m : Memory} (hm : Memory.wfFrom lo m = true) {a : Nat} (ha : a < lo) :
    Memory.read m a = Config.unlistedByte := by
  induction m generalizing lo with
  | nil => rfl
  | cons c m ih =>
    rw [Memory.wfFrom_cons] at hm
    have hne : c.1 ≠ a := by omega
    simpa [Memory.read, hne] using ih hm.2.2 (by omega)

theorem Memory.cell_wfFrom {lo a : Nat} {v : Byte} {m : Memory} (hlo : lo ≤ a) (hm : Memory.wfFrom (a + 1) m = true) :
    Memory.wfFrom lo (Memory.cell a v m) = true := by
  unfold Memory.cell
  split
  · exact Memory.wfFrom_mono (by omega) hm
  · rename_i hv
    exact (Memory.wfFrom_cons _ _ _).2 ⟨hlo, hv, hm⟩

theorem Memory.write_wfFrom {lo a : Nat} {v : Byte} {m : Memory} (hlo : lo ≤ a) (hm : Memory.wfFrom lo m = true) :
    Memory.wfFrom lo (Memory.write m a v) = true := by
  induction m generalizing lo with
  | nil => exact Memory.cell_wfFrom hlo rfl
  | cons c m ih =>
    have hc := (Memory.wfFrom_cons _ _ _).1 hm
    unfold Memory.write
    split
    · rename_i hlt
      exact Memory.cell_wfFrom hlo ((Memory.wfFrom_cons _ _ _).2 ⟨by omega, hc.2⟩)
    · split
      · rename_i heq
        exact Memory.cell_wfFrom hlo (heq ▸ hc.2.2)
      · exact (Memory.wfFrom_cons _ _ _).2 ⟨hc.1, hc.2.1, ih (by omega) hc.2.2⟩

/-- A write keeps the canonical form. -/
theorem Memory.write_wf {m : Memory} (hm : m.wf = true) (a : Nat) (v : Byte) : (m.write a v).wf = true :=
  Memory.write_wfFrom (Nat.zero_le a) hm

theorem State.writeByte_wf {s : State} (h : s.mem.wf = true) (a : Addr) (v : Byte) : (s.writeByte a v).mem.wf = true :=
  Memory.write_wf h a.toNat v

/-! ### Reading after writing (R45) -/

/-- A write leaves every other address alone, whatever the list. -/
theorem Memory.read_write_other {m : Memory} {a b : Nat} (v : Byte) (h : b ≠ a) :
    (m.write a v).read b = m.read b := by
  have hcell : ∀ m : Memory, (Memory.cell a v m).read b = m.read b := by
    intro m
    unfold Memory.cell
    split
    · rfl
    · simp [Memory.read, Ne.symm h]
  induction m with
  | nil => exact hcell []
  | cons c m ih =>
    unfold Memory.write
    split
    · exact hcell _
    · split
      · rename_i heq
        have hne : c.1 ≠ b := by omega
        simp [hcell, Memory.read, hne]
      · simp only [Memory.read, ih]

/-- A write to a canonical memory is read back. -/
theorem Memory.read_write_same {lo : Nat} {m : Memory} (hm : Memory.wfFrom lo m = true) (a : Nat) (v : Byte) :
    (m.write a v).read a = v := by
  have hcell : ∀ m : Memory, Memory.wfFrom (a + 1) m = true → (Memory.cell a v m).read a = v := by
    intro m hm
    unfold Memory.cell
    split
    · rename_i hv
      rw [Memory.read_of_lt hm (by omega), hv]
    · simp [Memory.read]
  induction m generalizing lo with
  | nil => exact hcell [] rfl
  | cons c m ih =>
    have hc := (Memory.wfFrom_cons _ _ _).1 hm
    unfold Memory.write
    split
    · exact hcell _ ((Memory.wfFrom_cons _ _ _).2 ⟨by omega, hc.2⟩)
    · split
      · rename_i heq
        exact hcell _ (heq ▸ hc.2.2)
      · have hne : c.1 ≠ a := by omega
        simpa [Memory.read, hne] using ih hc.2.2

theorem State.readByte_writeByte_other (s : State) {a b : Addr} (v : Byte) (h : b ≠ a) :
    (s.writeByte a v).readByte b = s.readByte b :=
  Memory.read_write_other v fun hn => h (BitVec.eq_of_toNat_eq hn)

theorem State.readByte_writeByte_same {s : State} (h : s.mem.wf = true) (a : Addr) (v : Byte) :
    (s.writeByte a v).readByte a = v :=
  Memory.read_write_same h a.toNat v

/-! ### The address space (R40) -/

/-- A write inside the address space keeps every listed address inside it. -/
theorem Memory.write_below {bits : Nat} {m : Memory} (hm : m.below bits = true) {a : Nat} (ha : a < 2 ^ bits)
    (v : Byte) : (m.write a v).below bits = true := by
  have hcell : ∀ m : Memory, m.below bits = true → (Memory.cell a v m).below bits = true := by
    intro m hm
    unfold Memory.cell
    split
    · exact hm
    · simpa [Memory.below, ha] using hm
  induction m with
  | nil => exact hcell [] rfl
  | cons c m ih =>
    have hc : c.1 < 2 ^ bits ∧ Memory.below bits m = true := by simpa [Memory.below] using hm
    unfold Memory.write
    split
    · exact hcell _ hm
    · split
      · exact hcell _ hc.2
      · have := ih hc.2
        simpa [Memory.below, hc.1] using this

end Sys2Proof.Machine
end

