-- ==== Sys2Proof/Laws/Operands.lean ====
section
/-! SUPPORT. The guard and the operand operations, said once: what `checked` answers, and what `writeOp` changes. -/

namespace Sys2Proof.Machine

/-! ### The guard (R46, R66, R103) -/

theorem State.firstRefused_eq_none (s : State) (as : List Addr) :
    s.firstRefused as = none ↔ ∀ a ∈ as, s.admits a = true := by
  simp [State.firstRefused, List.find?_eq_none]

/-- Everything a guarded instruction can answer with a next state. -/
theorem checked_eq_next (i : Instr) (as : List Addr) (s t u : State) :
    checked i as s t = .next u ↔
      s.emulating = false ∧ s.cpu ∈ i.cpus ∧ (∀ a ∈ as, s.admits a = true) ∧ u = t := by
  rw [← State.firstRefused_eq_none]
  unfold checked
  by_cases he : s.emulating = true
  · simp [he]
  · by_cases hc : s.cpu ∈ i.cpus
    · cases hr : s.firstRefused as <;> simp [he, hc, eq_comm]
    · simp [he, hc]

/-- A guarded instruction runs where nothing refuses it. -/
theorem checked_of_ready {i : Instr} {as : List Addr} {s : State} (t : State) (he : s.emulating = false)
    (hc : s.cpu ∈ i.cpus) (ha : ∀ a ∈ as, s.admits a = true) : checked i as s t = .next t :=
  (checked_eq_next i as s t t).2 ⟨he, hc, ha, rfl⟩

/-- Every refusal of a guarded instruction, with its reason. -/
theorem checked_eq_refused (i : Instr) (as : List Addr) (s t : State) (r : Refusal) :
    checked i as s t = .refused r ↔
      (s.emulating = true ∧ r = .emulationMode)
      ∨ (s.emulating = false ∧ s.cpu ∉ i.cpus ∧ r = .notAvailableOnCpu i.opcode s.cpu)
      ∨ (s.emulating = false ∧ s.cpu ∈ i.cpus ∧ ∃ a, s.firstRefused as = some a ∧ r = .memNotAdmitted a) := by
  unfold checked
  by_cases he : s.emulating = true
  · simp [he, eq_comm]
  · by_cases hc : s.cpu ∈ i.cpus
    · cases hr : s.firstRefused as <;> simp [he, hc, eq_comm]
    · simp [he, hc, eq_comm]

/-! ### Storing the operand (R82) -/

/-- A store to memory changes memory alone. -/
theorem writeMem_eq (s : State) (e : EA) (w : Width) (v : BitVec w.bits) :
    writeMem s e w v = { s with mem := (writeMem s e w v).mem } := by
  cases w <;> rfl

/-- Every byte outside the operand's addresses reads as before. -/
theorem readByte_writeMem_other (s : State) (e : EA) (w : Width) (v : BitVec w.bits) {b : Addr}
    (h : b ∉ e.writes w) : (writeMem s e w v).readByte b = s.readByte b := by
  cases w
  · have h0 : b ≠ e.ea0 := by simpa [EA.writes] using h
    exact State.readByte_writeByte_other s _ h0
  · have h01 : b ≠ e.ea1 ∧ b ≠ e.ea0 := by simpa [EA.writes, not_or] using h
    exact (State.readByte_writeByte_other _ _ h01.2).trans (State.readByte_writeByte_other s _ h01.1)

/-- A store keeps memory canonical. -/
theorem writeMem_wf {s : State} (h : s.mem.wf = true) (e : EA) (w : Width) (v : BitVec w.bits) :
    (writeMem s e w v).mem.wf = true := by
  cases w
  · exact State.writeByte_wf h _ _
  · exact State.writeByte_wf (State.writeByte_wf h _ _) _ _

/-- A stored operand is read back from the same place, where the two addresses differ. -/
theorem readMem_writeMem_same {s : State} (h : s.mem.wf = true) {e : EA} (hne : e.ea1 ≠ e.ea0) (w : Width)
    (v : BitVec w.bits) : readMem (writeMem s e w v) e w = v := by
  cases w
  · exact State.readByte_writeByte_same h _ _
  · have h1 := State.writeByte_wf h e.ea1 (byteOf 1 (v : Word))
    have hlo := State.readByte_writeByte_same h1 e.ea0 (byteOf 0 (v : Word))
    have hhi := (State.readByte_writeByte_other (s.writeByte e.ea1 (byteOf 1 (v : Word))) (byteOf 0 (v : Word)) hne).trans
      (State.readByte_writeByte_same h e.ea1 (byteOf 1 (v : Word)))
    change State.readByte _ e.ea1 ++ State.readByte _ e.ea0 = v
    simp only [writeMem]
    rw [hhi, hlo]
    exact byteOf_one_append_byteOf_zero v

/-- What `writeOp` leaves alone, wherever the operand is: every register but `A`, and `P`. -/
theorem writeOp_frame (w : Width) (o : Operand) (v : BitVec w.bits) (s : State) :
    (writeOp w o v s).cpu = s.cpu ∧ (writeOp w o v s).memAdmit = s.memAdmit ∧ (writeOp w o v s).e = s.e
      ∧ (writeOp w o v s).x = s.x ∧ (writeOp w o v s).y = s.y ∧ (writeOp w o v s).sp = s.sp
      ∧ (writeOp w o v s).d = s.d ∧ (writeOp w o v s).dbr = s.dbr ∧ (writeOp w o v s).pbr = s.pbr
      ∧ (writeOp w o v s).pc = s.pc ∧ (writeOp w o v s).p = s.p := by
  cases o <;> cases w <;> simp [writeOp, writeMem]

/-- Writing an operand in memory leaves `A` alone. -/
theorem writeOp_mem_a (w : Width) (m : MemOperand) (v : BitVec w.bits) (s : State) :
    (writeOp w (.mem m) v s).a = s.a := by
  cases w <;> simp [writeOp, writeMem]

end Sys2Proof.Machine
end

