-- ==== Sys2Proof/Laws/Fetch.lean ====
section
/-! SUPPORT. What fetching an instruction can answer, said once. -/

namespace Sys2Proof.Machine

theorem State.mem_fetchAddrs (s : State) (len : Nat) (a : Addr) :
    a ∈ s.fetchAddrs len ↔ ∃ k, k < len ∧ s.fetchAddr k = a := by
  simp [State.fetchAddrs]

/-- Everything that must hold when the fetch answers an instruction. -/
theorem fetchInstr_eq_ok (s : State) (i : Instr) : fetchInstr s = .ok i ↔
    s.emulating = false ∧ s.admits (s.fetchAddr 0) = true ∧ (∃ rest, decode s.width s.fetchWindow = .ok (i, rest))
      ∧ s.cpu ∈ i.cpus ∧ ∀ k, k < i.length s.width → s.admits (s.fetchAddr k) = true := by
  have hall : ∀ j : Instr, s.firstRefused (s.fetchAddrs (j.length s.width)) = none ↔
      ∀ k, k < j.length s.width → s.admits (s.fetchAddr k) = true := by
    intro j
    rw [State.firstRefused_eq_none]
    simp [State.mem_fetchAddrs]
  unfold fetchInstr
  by_cases he : s.emulating = true
  · simp [he]
  · by_cases ha : s.admits (s.fetchAddr 0) = false
    · simp [he, ha]
    · simp only [he, ha, Bool.not_eq_true, Bool.not_eq_false] at *
      cases hd : decode s.width s.fetchWindow with
      | error r => simp
      | ok pr =>
        obtain ⟨j, rest⟩ := pr
        simp only
        by_cases hc : s.cpu ∈ j.cpus
        · cases hf : s.firstRefused (s.fetchAddrs (j.length s.width)) with
          | none =>
            have hj := (hall j).1 hf
            constructor
            · intro h
              simp [hc] at h
              subst h
              exact ⟨trivial, trivial, ⟨rest, rfl⟩, hc, hj⟩
            · rintro ⟨-, -, ⟨r, hr⟩, hci, -⟩
              simp only [Except.ok.injEq, Prod.mk.injEq] at hr
              simp [hr.1, hci]
          | some a =>
            constructor
            · intro h
              simp [hc] at h
            · rintro ⟨-, -, ⟨r, hr⟩, -, hk⟩
              simp only [Except.ok.injEq, Prod.mk.injEq] at hr
              have hn := (hall j).2 (hr.1 ▸ hk)
              rw [hn] at hf
              cases hf
        · constructor
          · intro h
            simp [hc] at h
          · rintro ⟨-, -, ⟨r, hr⟩, hci, -⟩
            simp only [Except.ok.injEq, Prod.mk.injEq] at hr
            exact absurd (hr.1 ▸ hci) hc

/-- A step with a next state fetched an instruction and ran it. -/
theorem step_eq_next (s t : State) : step s = .next t ↔ ∃ i, fetchInstr s = .ok i ∧ exec i s = .next t := by
  unfold step
  cases h : fetchInstr s with
  | error r => simp
  | ok i => simp

end Sys2Proof.Machine
end

