-- ==== Sys2Proof/Laws/Meaning.lean ====
section
/-! SUPPORT. One lemma per shared meaning, which says everything it can answer with a next state, and one per mnemonic,
which says which meaning `exec` runs. -/

namespace Sys2Proof.Machine

/-! ### What each shared meaning answers -/

theorem andMeaning_next (i : Instr) (s t : State) : andMeaning i s = .next t ↔
    s.emulating = false ∧ s.cpu ∈ i.cpus ∧ (∀ a ∈ readAddrs s.width i.operand s, s.admits a = true) ∧
      t = ((s.setAcc s.width (s.acc s.width &&& readOp s.width i.operand s)).flagsNZ
        (s.acc s.width &&& readOp s.width i.operand s)).advance (i.length s.width) :=
  checked_eq_next _ _ _ _ _

theorem eorMeaning_next (i : Instr) (s t : State) : eorMeaning i s = .next t ↔
    s.emulating = false ∧ s.cpu ∈ i.cpus ∧ (∀ a ∈ readAddrs s.width i.operand s, s.admits a = true) ∧
      t = ((s.setAcc s.width (s.acc s.width ^^^ readOp s.width i.operand s)).flagsNZ
        (s.acc s.width ^^^ readOp s.width i.operand s)).advance (i.length s.width) :=
  checked_eq_next _ _ _ _ _

theorem oraMeaning_next (i : Instr) (s t : State) : oraMeaning i s = .next t ↔
    s.emulating = false ∧ s.cpu ∈ i.cpus ∧ (∀ a ∈ readAddrs s.width i.operand s, s.admits a = true) ∧
      t = ((s.setAcc s.width (s.acc s.width ||| readOp s.width i.operand s)).flagsNZ
        (s.acc s.width ||| readOp s.width i.operand s)).advance (i.length s.width) :=
  checked_eq_next _ _ _ _ _

theorem bitMemMeaning_next (i : Instr) (s t : State) : bitMemMeaning i s = .next t ↔
    s.emulating = false ∧ s.cpu ∈ i.cpus ∧ (∀ a ∈ readAddrs s.width i.operand s, s.admits a = true) ∧
      t = ((s.flagsTopBits (readOp s.width i.operand s)).flagZTest (s.acc s.width)
        (readOp s.width i.operand s)).advance (i.length s.width) :=
  checked_eq_next _ _ _ _ _

theorem bitImmMeaning_next (i : Instr) (s t : State) : bitImmMeaning i s = .next t ↔
    s.emulating = false ∧ s.cpu ∈ i.cpus ∧ (∀ a ∈ readAddrs s.width i.operand s, s.admits a = true) ∧
      t = (s.flagZTest (s.acc s.width) (readOp s.width i.operand s)).advance (i.length s.width) :=
  checked_eq_next _ _ _ _ _

theorem shiftStore_next (i : Instr) (s t : State) (res : BitVec s.width.bits × Bool) : shiftStore i s res = .next t ↔
    s.emulating = false ∧ s.cpu ∈ i.cpus ∧ (∀ a ∈ modifyAddrs s.width i.operand s, s.admits a = true) ∧
      t = (((writeOp s.width i.operand res.1 s).setC res.2).flagsNZ res.1).advance (i.length s.width) :=
  checked_eq_next _ _ _ _ _

theorem testStore_next (i : Instr) (s t : State) (m v : BitVec s.width.bits) : testStore i s m v = .next t ↔
    s.emulating = false ∧ s.cpu ∈ i.cpus ∧ (∀ a ∈ modifyAddrs s.width i.operand s, s.admits a = true) ∧
      t = ((writeOp s.width i.operand v s).flagZTest (s.acc s.width) m).advance (i.length s.width) :=
  checked_eq_next _ _ _ _ _

/-! ### Which meaning `exec` runs -/

theorem exec_AND (i : Instr) (s : State) (h : i.mnemonic = .AND) : exec i s = andMeaning i s := by
  cases i <;> first | rfl | cases h

theorem exec_EOR (i : Instr) (s : State) (h : i.mnemonic = .EOR) : exec i s = eorMeaning i s := by
  cases i <;> first | rfl | cases h

theorem exec_ORA (i : Instr) (s : State) (h : i.mnemonic = .ORA) : exec i s = oraMeaning i s := by
  cases i <;> first | rfl | cases h

theorem exec_BIT_imm (k : Word) (s : State) : exec (.bitImm k) s = bitImmMeaning (.bitImm k) s := rfl

theorem exec_BIT_mem (i : Instr) (s : State) (h : i.mnemonic = .BIT) (hm : i.operand.mode ≠ .IMM) :
    exec i s = bitMemMeaning i s := by
  cases i <;> first | rfl | exact absurd rfl hm | cases h

theorem exec_ASL (i : Instr) (s : State) (h : i.mnemonic = .ASL) : exec i s = aslMeaning i s := by
  cases i <;> first | rfl | cases h

theorem exec_LSR (i : Instr) (s : State) (h : i.mnemonic = .LSR) : exec i s = lsrMeaning i s := by
  cases i <;> first | rfl | cases h

theorem exec_ROL (i : Instr) (s : State) (h : i.mnemonic = .ROL) : exec i s = rolMeaning i s := by
  cases i <;> first | rfl | cases h

theorem exec_ROR (i : Instr) (s : State) (h : i.mnemonic = .ROR) : exec i s = rorMeaning i s := by
  cases i <;> first | rfl | cases h

theorem exec_TRB (i : Instr) (s : State) (h : i.mnemonic = .TRB) : exec i s = trbMeaning i s := by
  cases i <;> first | rfl | cases h

theorem exec_TSB (i : Instr) (s : State) (h : i.mnemonic = .TSB) : exec i s = tsbMeaning i s := by
  cases i <;> first | rfl | cases h

end Sys2Proof.Machine
end

