-- ==== Sys2Proof/Laws/PerInstr.lean ====
section
/-! SUPPORT. Two families of facts about each instruction as syntax, one lemma per constructor. -/

namespace Sys2Proof.Laws

/-- The opcode map reads the instruction's own opcode byte and operand bytes as the instruction: for a well-formed
instruction, whatever bytes follow it (R67). -/
def OpcodeMapped.Statement (i : Instr) : Prop :=
  ∀ (w : Width) (more : List Byte), i.wellFormed w = true →
    instrOf w i.opcode ((i.operand.bytes w ++ more).getD 0 0) ((i.operand.bytes w ++ more).getD 1 0)
      ((i.operand.bytes w ++ more).getD 2 0) = some i

/-- The encoding has the instruction's length (R62, R63). -/
def EncodedLength.Statement (i : Instr) : Prop := ∀ w : Width, (encode w i).length = i.length w

theorem OpcodeMapped.andImm (k : Word) : OpcodeMapped.Statement (.andImm k) := by
  intro w more h
  cases w
  · exact congrArg (fun x => some (Instr.andImm x)) (assembleConst_w8 k h _)
  · exact congrArg (fun x => some (Instr.andImm x)) (assemble16_bytes k)

theorem OpcodeMapped.andAbs (a : Word) : OpcodeMapped.Statement (.andAbs a) :=
  fun _ _ _ => congrArg (fun x => some (Instr.andAbs x)) (assemble16_bytes a)

theorem OpcodeMapped.andLong (a : Addr) : OpcodeMapped.Statement (.andLong a) :=
  fun _ _ _ => congrArg (fun x => some (Instr.andLong x)) (assemble24_bytes a)

theorem OpcodeMapped.andDp (b : Byte) : OpcodeMapped.Statement (.andDp b) :=
  fun _ _ _ => rfl

theorem OpcodeMapped.andDpInd (b : Byte) : OpcodeMapped.Statement (.andDpInd b) :=
  fun _ _ _ => rfl

theorem OpcodeMapped.andDpIndL (b : Byte) : OpcodeMapped.Statement (.andDpIndL b) :=
  fun _ _ _ => rfl

theorem OpcodeMapped.andAbsX (a : Word) : OpcodeMapped.Statement (.andAbsX a) :=
  fun _ _ _ => congrArg (fun x => some (Instr.andAbsX x)) (assemble16_bytes a)

theorem OpcodeMapped.andLongX (a : Addr) : OpcodeMapped.Statement (.andLongX a) :=
  fun _ _ _ => congrArg (fun x => some (Instr.andLongX x)) (assemble24_bytes a)

theorem OpcodeMapped.andAbsY (a : Word) : OpcodeMapped.Statement (.andAbsY a) :=
  fun _ _ _ => congrArg (fun x => some (Instr.andAbsY x)) (assemble16_bytes a)

theorem OpcodeMapped.andDpX (b : Byte) : OpcodeMapped.Statement (.andDpX b) :=
  fun _ _ _ => rfl

theorem OpcodeMapped.andDpXInd (b : Byte) : OpcodeMapped.Statement (.andDpXInd b) :=
  fun _ _ _ => rfl

theorem OpcodeMapped.andDpIndY (b : Byte) : OpcodeMapped.Statement (.andDpIndY b) :=
  fun _ _ _ => rfl

theorem OpcodeMapped.andDpIndLY (b : Byte) : OpcodeMapped.Statement (.andDpIndLY b) :=
  fun _ _ _ => rfl

theorem OpcodeMapped.andSr (b : Byte) : OpcodeMapped.Statement (.andSr b) :=
  fun _ _ _ => rfl

theorem OpcodeMapped.andSrIndY (b : Byte) : OpcodeMapped.Statement (.andSrIndY b) :=
  fun _ _ _ => rfl

theorem OpcodeMapped.bitImm (k : Word) : OpcodeMapped.Statement (.bitImm k) := by
  intro w more h
  cases w
  · exact congrArg (fun x => some (Instr.bitImm x)) (assembleConst_w8 k h _)
  · exact congrArg (fun x => some (Instr.bitImm x)) (assemble16_bytes k)

theorem OpcodeMapped.bitAbs (a : Word) : OpcodeMapped.Statement (.bitAbs a) :=
  fun _ _ _ => congrArg (fun x => some (Instr.bitAbs x)) (assemble16_bytes a)

theorem OpcodeMapped.bitDp (b : Byte) : OpcodeMapped.Statement (.bitDp b) :=
  fun _ _ _ => rfl

theorem OpcodeMapped.bitAbsX (a : Word) : OpcodeMapped.Statement (.bitAbsX a) :=
  fun _ _ _ => congrArg (fun x => some (Instr.bitAbsX x)) (assemble16_bytes a)

theorem OpcodeMapped.bitDpX (b : Byte) : OpcodeMapped.Statement (.bitDpX b) :=
  fun _ _ _ => rfl

theorem OpcodeMapped.eorImm (k : Word) : OpcodeMapped.Statement (.eorImm k) := by
  intro w more h
  cases w
  · exact congrArg (fun x => some (Instr.eorImm x)) (assembleConst_w8 k h _)
  · exact congrArg (fun x => some (Instr.eorImm x)) (assemble16_bytes k)

theorem OpcodeMapped.eorAbs (a : Word) : OpcodeMapped.Statement (.eorAbs a) :=
  fun _ _ _ => congrArg (fun x => some (Instr.eorAbs x)) (assemble16_bytes a)

theorem OpcodeMapped.eorLong (a : Addr) : OpcodeMapped.Statement (.eorLong a) :=
  fun _ _ _ => congrArg (fun x => some (Instr.eorLong x)) (assemble24_bytes a)

theorem OpcodeMapped.eorDp (b : Byte) : OpcodeMapped.Statement (.eorDp b) :=
  fun _ _ _ => rfl

theorem OpcodeMapped.eorDpInd (b : Byte) : OpcodeMapped.Statement (.eorDpInd b) :=
  fun _ _ _ => rfl

theorem OpcodeMapped.eorDpIndL (b : Byte) : OpcodeMapped.Statement (.eorDpIndL b) :=
  fun _ _ _ => rfl

theorem OpcodeMapped.eorAbsX (a : Word) : OpcodeMapped.Statement (.eorAbsX a) :=
  fun _ _ _ => congrArg (fun x => some (Instr.eorAbsX x)) (assemble16_bytes a)

theorem OpcodeMapped.eorLongX (a : Addr) : OpcodeMapped.Statement (.eorLongX a) :=
  fun _ _ _ => congrArg (fun x => some (Instr.eorLongX x)) (assemble24_bytes a)

theorem OpcodeMapped.eorAbsY (a : Word) : OpcodeMapped.Statement (.eorAbsY a) :=
  fun _ _ _ => congrArg (fun x => some (Instr.eorAbsY x)) (assemble16_bytes a)

theorem OpcodeMapped.eorDpX (b : Byte) : OpcodeMapped.Statement (.eorDpX b) :=
  fun _ _ _ => rfl

theorem OpcodeMapped.eorDpXInd (b : Byte) : OpcodeMapped.Statement (.eorDpXInd b) :=
  fun _ _ _ => rfl

theorem OpcodeMapped.eorDpIndY (b : Byte) : OpcodeMapped.Statement (.eorDpIndY b) :=
  fun _ _ _ => rfl

theorem OpcodeMapped.eorDpIndLY (b : Byte) : OpcodeMapped.Statement (.eorDpIndLY b) :=
  fun _ _ _ => rfl

theorem OpcodeMapped.eorSr (b : Byte) : OpcodeMapped.Statement (.eorSr b) :=
  fun _ _ _ => rfl

theorem OpcodeMapped.eorSrIndY (b : Byte) : OpcodeMapped.Statement (.eorSrIndY b) :=
  fun _ _ _ => rfl

theorem OpcodeMapped.oraImm (k : Word) : OpcodeMapped.Statement (.oraImm k) := by
  intro w more h
  cases w
  · exact congrArg (fun x => some (Instr.oraImm x)) (assembleConst_w8 k h _)
  · exact congrArg (fun x => some (Instr.oraImm x)) (assemble16_bytes k)

theorem OpcodeMapped.oraAbs (a : Word) : OpcodeMapped.Statement (.oraAbs a) :=
  fun _ _ _ => congrArg (fun x => some (Instr.oraAbs x)) (assemble16_bytes a)

theorem OpcodeMapped.oraLong (a : Addr) : OpcodeMapped.Statement (.oraLong a) :=
  fun _ _ _ => congrArg (fun x => some (Instr.oraLong x)) (assemble24_bytes a)

theorem OpcodeMapped.oraDp (b : Byte) : OpcodeMapped.Statement (.oraDp b) :=
  fun _ _ _ => rfl

theorem OpcodeMapped.oraDpInd (b : Byte) : OpcodeMapped.Statement (.oraDpInd b) :=
  fun _ _ _ => rfl

theorem OpcodeMapped.oraDpIndL (b : Byte) : OpcodeMapped.Statement (.oraDpIndL b) :=
  fun _ _ _ => rfl

theorem OpcodeMapped.oraAbsX (a : Word) : OpcodeMapped.Statement (.oraAbsX a) :=
  fun _ _ _ => congrArg (fun x => some (Instr.oraAbsX x)) (assemble16_bytes a)

theorem OpcodeMapped.oraLongX (a : Addr) : OpcodeMapped.Statement (.oraLongX a) :=
  fun _ _ _ => congrArg (fun x => some (Instr.oraLongX x)) (assemble24_bytes a)

theorem OpcodeMapped.oraAbsY (a : Word) : OpcodeMapped.Statement (.oraAbsY a) :=
  fun _ _ _ => congrArg (fun x => some (Instr.oraAbsY x)) (assemble16_bytes a)

theorem OpcodeMapped.oraDpX (b : Byte) : OpcodeMapped.Statement (.oraDpX b) :=
  fun _ _ _ => rfl

theorem OpcodeMapped.oraDpXInd (b : Byte) : OpcodeMapped.Statement (.oraDpXInd b) :=
  fun _ _ _ => rfl

theorem OpcodeMapped.oraDpIndY (b : Byte) : OpcodeMapped.Statement (.oraDpIndY b) :=
  fun _ _ _ => rfl

theorem OpcodeMapped.oraDpIndLY (b : Byte) : OpcodeMapped.Statement (.oraDpIndLY b) :=
  fun _ _ _ => rfl

theorem OpcodeMapped.oraSr (b : Byte) : OpcodeMapped.Statement (.oraSr b) :=
  fun _ _ _ => rfl

theorem OpcodeMapped.oraSrIndY (b : Byte) : OpcodeMapped.Statement (.oraSrIndY b) :=
  fun _ _ _ => rfl

theorem OpcodeMapped.aslAcc : OpcodeMapped.Statement .aslAcc :=
  fun _ _ _ => rfl

theorem OpcodeMapped.aslAbs (a : Word) : OpcodeMapped.Statement (.aslAbs a) :=
  fun _ _ _ => congrArg (fun x => some (Instr.aslAbs x)) (assemble16_bytes a)

theorem OpcodeMapped.aslDp (b : Byte) : OpcodeMapped.Statement (.aslDp b) :=
  fun _ _ _ => rfl

theorem OpcodeMapped.aslAbsX (a : Word) : OpcodeMapped.Statement (.aslAbsX a) :=
  fun _ _ _ => congrArg (fun x => some (Instr.aslAbsX x)) (assemble16_bytes a)

theorem OpcodeMapped.aslDpX (b : Byte) : OpcodeMapped.Statement (.aslDpX b) :=
  fun _ _ _ => rfl

theorem OpcodeMapped.lsrAcc : OpcodeMapped.Statement .lsrAcc :=
  fun _ _ _ => rfl

theorem OpcodeMapped.lsrAbs (a : Word) : OpcodeMapped.Statement (.lsrAbs a) :=
  fun _ _ _ => congrArg (fun x => some (Instr.lsrAbs x)) (assemble16_bytes a)

theorem OpcodeMapped.lsrDp (b : Byte) : OpcodeMapped.Statement (.lsrDp b) :=
  fun _ _ _ => rfl

theorem OpcodeMapped.lsrAbsX (a : Word) : OpcodeMapped.Statement (.lsrAbsX a) :=
  fun _ _ _ => congrArg (fun x => some (Instr.lsrAbsX x)) (assemble16_bytes a)

theorem OpcodeMapped.lsrDpX (b : Byte) : OpcodeMapped.Statement (.lsrDpX b) :=
  fun _ _ _ => rfl

theorem OpcodeMapped.rolAcc : OpcodeMapped.Statement .rolAcc :=
  fun _ _ _ => rfl

theorem OpcodeMapped.rolAbs (a : Word) : OpcodeMapped.Statement (.rolAbs a) :=
  fun _ _ _ => congrArg (fun x => some (Instr.rolAbs x)) (assemble16_bytes a)

theorem OpcodeMapped.rolDp (b : Byte) : OpcodeMapped.Statement (.rolDp b) :=
  fun _ _ _ => rfl

theorem OpcodeMapped.rolAbsX (a : Word) : OpcodeMapped.Statement (.rolAbsX a) :=
  fun _ _ _ => congrArg (fun x => some (Instr.rolAbsX x)) (assemble16_bytes a)

theorem OpcodeMapped.rolDpX (b : Byte) : OpcodeMapped.Statement (.rolDpX b) :=
  fun _ _ _ => rfl

theorem OpcodeMapped.rorAcc : OpcodeMapped.Statement .rorAcc :=
  fun _ _ _ => rfl

theorem OpcodeMapped.rorAbs (a : Word) : OpcodeMapped.Statement (.rorAbs a) :=
  fun _ _ _ => congrArg (fun x => some (Instr.rorAbs x)) (assemble16_bytes a)

theorem OpcodeMapped.rorDp (b : Byte) : OpcodeMapped.Statement (.rorDp b) :=
  fun _ _ _ => rfl

theorem OpcodeMapped.rorAbsX (a : Word) : OpcodeMapped.Statement (.rorAbsX a) :=
  fun _ _ _ => congrArg (fun x => some (Instr.rorAbsX x)) (assemble16_bytes a)

theorem OpcodeMapped.rorDpX (b : Byte) : OpcodeMapped.Statement (.rorDpX b) :=
  fun _ _ _ => rfl

theorem OpcodeMapped.trbAbs (a : Word) : OpcodeMapped.Statement (.trbAbs a) :=
  fun _ _ _ => congrArg (fun x => some (Instr.trbAbs x)) (assemble16_bytes a)

theorem OpcodeMapped.trbDp (b : Byte) : OpcodeMapped.Statement (.trbDp b) :=
  fun _ _ _ => rfl

theorem OpcodeMapped.tsbAbs (a : Word) : OpcodeMapped.Statement (.tsbAbs a) :=
  fun _ _ _ => congrArg (fun x => some (Instr.tsbAbs x)) (assemble16_bytes a)

theorem OpcodeMapped.tsbDp (b : Byte) : OpcodeMapped.Statement (.tsbDp b) :=
  fun _ _ _ => rfl

theorem EncodedLength.andImm (k : Word) : EncodedLength.Statement (.andImm k) := fun w => by cases w <;> rfl

theorem EncodedLength.andAbs (a : Word) : EncodedLength.Statement (.andAbs a) := fun _ => rfl

theorem EncodedLength.andLong (a : Addr) : EncodedLength.Statement (.andLong a) := fun _ => rfl

theorem EncodedLength.andDp (b : Byte) : EncodedLength.Statement (.andDp b) := fun _ => rfl

theorem EncodedLength.andDpInd (b : Byte) : EncodedLength.Statement (.andDpInd b) := fun _ => rfl

theorem EncodedLength.andDpIndL (b : Byte) : EncodedLength.Statement (.andDpIndL b) := fun _ => rfl

theorem EncodedLength.andAbsX (a : Word) : EncodedLength.Statement (.andAbsX a) := fun _ => rfl

theorem EncodedLength.andLongX (a : Addr) : EncodedLength.Statement (.andLongX a) := fun _ => rfl

theorem EncodedLength.andAbsY (a : Word) : EncodedLength.Statement (.andAbsY a) := fun _ => rfl

theorem EncodedLength.andDpX (b : Byte) : EncodedLength.Statement (.andDpX b) := fun _ => rfl

theorem EncodedLength.andDpXInd (b : Byte) : EncodedLength.Statement (.andDpXInd b) := fun _ => rfl

theorem EncodedLength.andDpIndY (b : Byte) : EncodedLength.Statement (.andDpIndY b) := fun _ => rfl

theorem EncodedLength.andDpIndLY (b : Byte) : EncodedLength.Statement (.andDpIndLY b) := fun _ => rfl

theorem EncodedLength.andSr (b : Byte) : EncodedLength.Statement (.andSr b) := fun _ => rfl

theorem EncodedLength.andSrIndY (b : Byte) : EncodedLength.Statement (.andSrIndY b) := fun _ => rfl

theorem EncodedLength.bitImm (k : Word) : EncodedLength.Statement (.bitImm k) := fun w => by cases w <;> rfl

theorem EncodedLength.bitAbs (a : Word) : EncodedLength.Statement (.bitAbs a) := fun _ => rfl

theorem EncodedLength.bitDp (b : Byte) : EncodedLength.Statement (.bitDp b) := fun _ => rfl

theorem EncodedLength.bitAbsX (a : Word) : EncodedLength.Statement (.bitAbsX a) := fun _ => rfl

theorem EncodedLength.bitDpX (b : Byte) : EncodedLength.Statement (.bitDpX b) := fun _ => rfl

theorem EncodedLength.eorImm (k : Word) : EncodedLength.Statement (.eorImm k) := fun w => by cases w <;> rfl

theorem EncodedLength.eorAbs (a : Word) : EncodedLength.Statement (.eorAbs a) := fun _ => rfl

theorem EncodedLength.eorLong (a : Addr) : EncodedLength.Statement (.eorLong a) := fun _ => rfl

theorem EncodedLength.eorDp (b : Byte) : EncodedLength.Statement (.eorDp b) := fun _ => rfl

theorem EncodedLength.eorDpInd (b : Byte) : EncodedLength.Statement (.eorDpInd b) := fun _ => rfl

theorem EncodedLength.eorDpIndL (b : Byte) : EncodedLength.Statement (.eorDpIndL b) := fun _ => rfl

theorem EncodedLength.eorAbsX (a : Word) : EncodedLength.Statement (.eorAbsX a) := fun _ => rfl

theorem EncodedLength.eorLongX (a : Addr) : EncodedLength.Statement (.eorLongX a) := fun _ => rfl

theorem EncodedLength.eorAbsY (a : Word) : EncodedLength.Statement (.eorAbsY a) := fun _ => rfl

theorem EncodedLength.eorDpX (b : Byte) : EncodedLength.Statement (.eorDpX b) := fun _ => rfl

theorem EncodedLength.eorDpXInd (b : Byte) : EncodedLength.Statement (.eorDpXInd b) := fun _ => rfl

theorem EncodedLength.eorDpIndY (b : Byte) : EncodedLength.Statement (.eorDpIndY b) := fun _ => rfl

theorem EncodedLength.eorDpIndLY (b : Byte) : EncodedLength.Statement (.eorDpIndLY b) := fun _ => rfl

theorem EncodedLength.eorSr (b : Byte) : EncodedLength.Statement (.eorSr b) := fun _ => rfl

theorem EncodedLength.eorSrIndY (b : Byte) : EncodedLength.Statement (.eorSrIndY b) := fun _ => rfl

theorem EncodedLength.oraImm (k : Word) : EncodedLength.Statement (.oraImm k) := fun w => by cases w <;> rfl

theorem EncodedLength.oraAbs (a : Word) : EncodedLength.Statement (.oraAbs a) := fun _ => rfl

theorem EncodedLength.oraLong (a : Addr) : EncodedLength.Statement (.oraLong a) := fun _ => rfl

theorem EncodedLength.oraDp (b : Byte) : EncodedLength.Statement (.oraDp b) := fun _ => rfl

theorem EncodedLength.oraDpInd (b : Byte) : EncodedLength.Statement (.oraDpInd b) := fun _ => rfl

theorem EncodedLength.oraDpIndL (b : Byte) : EncodedLength.Statement (.oraDpIndL b) := fun _ => rfl

theorem EncodedLength.oraAbsX (a : Word) : EncodedLength.Statement (.oraAbsX a) := fun _ => rfl

theorem EncodedLength.oraLongX (a : Addr) : EncodedLength.Statement (.oraLongX a) := fun _ => rfl

theorem EncodedLength.oraAbsY (a : Word) : EncodedLength.Statement (.oraAbsY a) := fun _ => rfl

theorem EncodedLength.oraDpX (b : Byte) : EncodedLength.Statement (.oraDpX b) := fun _ => rfl

theorem EncodedLength.oraDpXInd (b : Byte) : EncodedLength.Statement (.oraDpXInd b) := fun _ => rfl

theorem EncodedLength.oraDpIndY (b : Byte) : EncodedLength.Statement (.oraDpIndY b) := fun _ => rfl

theorem EncodedLength.oraDpIndLY (b : Byte) : EncodedLength.Statement (.oraDpIndLY b) := fun _ => rfl

theorem EncodedLength.oraSr (b : Byte) : EncodedLength.Statement (.oraSr b) := fun _ => rfl

theorem EncodedLength.oraSrIndY (b : Byte) : EncodedLength.Statement (.oraSrIndY b) := fun _ => rfl

theorem EncodedLength.aslAcc : EncodedLength.Statement .aslAcc := fun _ => rfl

theorem EncodedLength.aslAbs (a : Word) : EncodedLength.Statement (.aslAbs a) := fun _ => rfl

theorem EncodedLength.aslDp (b : Byte) : EncodedLength.Statement (.aslDp b) := fun _ => rfl

theorem EncodedLength.aslAbsX (a : Word) : EncodedLength.Statement (.aslAbsX a) := fun _ => rfl

theorem EncodedLength.aslDpX (b : Byte) : EncodedLength.Statement (.aslDpX b) := fun _ => rfl

theorem EncodedLength.lsrAcc : EncodedLength.Statement .lsrAcc := fun _ => rfl

theorem EncodedLength.lsrAbs (a : Word) : EncodedLength.Statement (.lsrAbs a) := fun _ => rfl

theorem EncodedLength.lsrDp (b : Byte) : EncodedLength.Statement (.lsrDp b) := fun _ => rfl

theorem EncodedLength.lsrAbsX (a : Word) : EncodedLength.Statement (.lsrAbsX a) := fun _ => rfl

theorem EncodedLength.lsrDpX (b : Byte) : EncodedLength.Statement (.lsrDpX b) := fun _ => rfl

theorem EncodedLength.rolAcc : EncodedLength.Statement .rolAcc := fun _ => rfl

theorem EncodedLength.rolAbs (a : Word) : EncodedLength.Statement (.rolAbs a) := fun _ => rfl

theorem EncodedLength.rolDp (b : Byte) : EncodedLength.Statement (.rolDp b) := fun _ => rfl

theorem EncodedLength.rolAbsX (a : Word) : EncodedLength.Statement (.rolAbsX a) := fun _ => rfl

theorem EncodedLength.rolDpX (b : Byte) : EncodedLength.Statement (.rolDpX b) := fun _ => rfl

theorem EncodedLength.rorAcc : EncodedLength.Statement .rorAcc := fun _ => rfl

theorem EncodedLength.rorAbs (a : Word) : EncodedLength.Statement (.rorAbs a) := fun _ => rfl

theorem EncodedLength.rorDp (b : Byte) : EncodedLength.Statement (.rorDp b) := fun _ => rfl

theorem EncodedLength.rorAbsX (a : Word) : EncodedLength.Statement (.rorAbsX a) := fun _ => rfl

theorem EncodedLength.rorDpX (b : Byte) : EncodedLength.Statement (.rorDpX b) := fun _ => rfl

theorem EncodedLength.trbAbs (a : Word) : EncodedLength.Statement (.trbAbs a) := fun _ => rfl

theorem EncodedLength.trbDp (b : Byte) : EncodedLength.Statement (.trbDp b) := fun _ => rfl

theorem EncodedLength.tsbAbs (a : Word) : EncodedLength.Statement (.tsbAbs a) := fun _ => rfl

theorem EncodedLength.tsbDp (b : Byte) : EncodedLength.Statement (.tsbDp b) := fun _ => rfl

end Sys2Proof.Laws
end

