-- ==== Sys2Proof/Tests/Slice0.lean ====
section
/-! SUPPORT. Tests. Expected values are the spec's own: the encodings of spec/30_encoding.md, the worked examples and
vectors of the instruction files. The last part shows, for each statement with hypotheses, a state that meets them. -/

open Sys2Proof Sys2Proof.Machine

namespace Sys2Proof.Tests

/-- A 6502 or 65C02 at 0x0600, with its `A`, `P` and data. -/
def on8 (c : Cpu) (a : Word) (p : Byte) (data : Memory) : State :=
  { State.reset with cpu := c, memAdmit := [⟨0, 2 ^ 16⟩], a := a, sp := 0xA5, pc := 0x600, p := p, mem := data }

/-- A 65816 in native mode at 01:8000 with DBR = 0x7E, with its `A`, `P` and data. -/
def on65816 (a : Word) (p : Byte) (data : Memory) : State :=
  { State.reset with a := a, sp := 0x1F0, dbr := 0x7E, pbr := 1, pc := 0x8000, p := p, mem := data }

/-- One step, with the instruction's bytes at the program counter. -/
def run (s : State) (code : List Byte) : Result := step (s.placeBytes 0 code)

/-- A next state with this `A`, `P` and `PC`, in which these cells read so. -/
def ends (r : Result) (a : Word) (p : Byte) (pc : Word) (cells : List Host.Cell) : Bool :=
  match r with
  | .next t => t.a == a && t.p == p && t.pc == pc && cells.all (fun c => t.mem.read c.1 == c.2)
  | .fault _ => false
  | .refused _ => false

/-- A refusal, with its reason. -/
def stops (r : Result) (why : Refusal) : Bool :=
  match r with
  | .refused q => q == why
  | .next _ => false
  | .fault _ => false

/-- The bytes decode to the instruction, with nothing left over, and the instruction encodes to the bytes. -/
def reads (w : Width) (code : List Byte) (i : Instr) : Bool :=
  (match decode w code with
  | .ok r => r == (i, [])
  | .error _ => false) && encode w i == code

/-! ### WellFormed: the one check, on the constant of each `#const` form -/

theorem test_illFormed_and : (Instr.andImm 0x100).wellFormed .w8 = false := by decide
theorem test_illFormed_bit : (Instr.bitImm 0x100).wellFormed .w8 = false := by decide
theorem test_illFormed_eor : (Instr.eorImm 0x1234).wellFormed .w8 = false := by decide
theorem test_illFormed_ora : (Instr.oraImm 0xFFFF).wellFormed .w8 = false := by decide
theorem test_wellFormed : (Instr.andImm 0xFF).wellFormed .w8 = true ∧ (Instr.andImm 0x100).wellFormed .w16 = true := by
  decide

/-- An opcode byte outside the table, and a word cut short, are refused by name. -/
theorem test_decode_refusals : decode .w8 [0xEA, 0, 0, 0] = .error (.unknownOpcode 0xEA)
    ∧ decode .w16 [0x29, 0x5A] = .error .truncated := ⟨rfl, rfl⟩

/-- The opcode table's own numbering: the first byte is bits 7..0. -/
theorem test_tableWord : decodeTableWord 16 0x5A29 = some (.andImm 0x5A)
    ∧ decodeTableWord 32 0x1234562F = some (.andLong 0x123456) := ⟨rfl, rfl⟩

/-- A table word placed at reset is run by the next step. -/
theorem test_withFetchWord : stops (step (State.reset.withFetchWord 8 0xEA)) (.unknownOpcode 0xEA) = true
    ∧ ends (step (State.reset.withFetchWord 16 0x8009)) 0x80 0xB4 2 [(0, 0x09), (1, 0x80)] = true := by decide

/-! ### Decoding: every row's word written out from the formats R62 and the opcode map R67 -/

theorem test_decode_AND :
    reads .w8 [0x29, 0x5A] (.andImm 0x005A)
    && reads .w16 [0x29, 0x34, 0x12] (.andImm 0x1234)
    && reads .w8 [0x2D, 0x34, 0x12] (.andAbs 0x1234)
    && reads .w8 [0x2F, 0x56, 0x34, 0x12] (.andLong 0x123456)
    && reads .w8 [0x25, 0x71] (.andDp 0x71)
    && reads .w8 [0x32, 0x71] (.andDpInd 0x71)
    && reads .w8 [0x27, 0x71] (.andDpIndL 0x71)
    && reads .w8 [0x3D, 0x34, 0x12] (.andAbsX 0x1234)
    && reads .w8 [0x3F, 0x56, 0x34, 0x12] (.andLongX 0x123456)
    && reads .w8 [0x39, 0x34, 0x12] (.andAbsY 0x1234)
    && reads .w8 [0x35, 0x71] (.andDpX 0x71)
    && reads .w8 [0x21, 0x71] (.andDpXInd 0x71)
    && reads .w8 [0x31, 0x71] (.andDpIndY 0x71)
    && reads .w8 [0x37, 0x71] (.andDpIndLY 0x71)
    && reads .w8 [0x23, 0x71] (.andSr 0x71)
    && reads .w8 [0x33, 0x71] (.andSrIndY 0x71) = true := by decide

theorem test_decode_BIT :
    reads .w8 [0x89, 0x5A] (.bitImm 0x005A)
    && reads .w16 [0x89, 0x34, 0x12] (.bitImm 0x1234)
    && reads .w8 [0x2C, 0x34, 0x12] (.bitAbs 0x1234)
    && reads .w8 [0x24, 0x71] (.bitDp 0x71)
    && reads .w8 [0x3C, 0x34, 0x12] (.bitAbsX 0x1234)
    && reads .w8 [0x34, 0x71] (.bitDpX 0x71) = true := by decide

theorem test_decode_EOR :
    reads .w8 [0x49, 0x5A] (.eorImm 0x005A)
    && reads .w16 [0x49, 0x34, 0x12] (.eorImm 0x1234)
    && reads .w8 [0x4D, 0x34, 0x12] (.eorAbs 0x1234)
    && reads .w8 [0x4F, 0x56, 0x34, 0x12] (.eorLong 0x123456)
    && reads .w8 [0x45, 0x71] (.eorDp 0x71)
    && reads .w8 [0x52, 0x71] (.eorDpInd 0x71)
    && reads .w8 [0x47, 0x71] (.eorDpIndL 0x71)
    && reads .w8 [0x5D, 0x34, 0x12] (.eorAbsX 0x1234)
    && reads .w8 [0x5F, 0x56, 0x34, 0x12] (.eorLongX 0x123456)
    && reads .w8 [0x59, 0x34, 0x12] (.eorAbsY 0x1234)
    && reads .w8 [0x55, 0x71] (.eorDpX 0x71)
    && reads .w8 [0x41, 0x71] (.eorDpXInd 0x71)
    && reads .w8 [0x51, 0x71] (.eorDpIndY 0x71)
    && reads .w8 [0x57, 0x71] (.eorDpIndLY 0x71)
    && reads .w8 [0x43, 0x71] (.eorSr 0x71)
    && reads .w8 [0x53, 0x71] (.eorSrIndY 0x71) = true := by decide

theorem test_decode_ORA :
    reads .w8 [0x09, 0x5A] (.oraImm 0x005A)
    && reads .w16 [0x09, 0x34, 0x12] (.oraImm 0x1234)
    && reads .w8 [0x0D, 0x34, 0x12] (.oraAbs 0x1234)
    && reads .w8 [0x0F, 0x56, 0x34, 0x12] (.oraLong 0x123456)
    && reads .w8 [0x05, 0x71] (.oraDp 0x71)
    && reads .w8 [0x12, 0x71] (.oraDpInd 0x71)
    && reads .w8 [0x07, 0x71] (.oraDpIndL 0x71)
    && reads .w8 [0x1D, 0x34, 0x12] (.oraAbsX 0x1234)
    && reads .w8 [0x1F, 0x56, 0x34, 0x12] (.oraLongX 0x123456)
    && reads .w8 [0x19, 0x34, 0x12] (.oraAbsY 0x1234)
    && reads .w8 [0x15, 0x71] (.oraDpX 0x71)
    && reads .w8 [0x01, 0x71] (.oraDpXInd 0x71)
    && reads .w8 [0x11, 0x71] (.oraDpIndY 0x71)
    && reads .w8 [0x17, 0x71] (.oraDpIndLY 0x71)
    && reads .w8 [0x03, 0x71] (.oraSr 0x71)
    && reads .w8 [0x13, 0x71] (.oraSrIndY 0x71) = true := by decide

theorem test_decode_ASL :
    reads .w8 [0x0A] (.aslAcc)
    && reads .w8 [0x0E, 0x34, 0x12] (.aslAbs 0x1234)
    && reads .w8 [0x06, 0x71] (.aslDp 0x71)
    && reads .w8 [0x1E, 0x34, 0x12] (.aslAbsX 0x1234)
    && reads .w8 [0x16, 0x71] (.aslDpX 0x71) = true := by decide

theorem test_decode_LSR :
    reads .w8 [0x4A] (.lsrAcc)
    && reads .w8 [0x4E, 0x34, 0x12] (.lsrAbs 0x1234)
    && reads .w8 [0x46, 0x71] (.lsrDp 0x71)
    && reads .w8 [0x5E, 0x34, 0x12] (.lsrAbsX 0x1234)
    && reads .w8 [0x56, 0x71] (.lsrDpX 0x71) = true := by decide

theorem test_decode_ROL :
    reads .w8 [0x2A] (.rolAcc)
    && reads .w8 [0x2E, 0x34, 0x12] (.rolAbs 0x1234)
    && reads .w8 [0x26, 0x71] (.rolDp 0x71)
    && reads .w8 [0x3E, 0x34, 0x12] (.rolAbsX 0x1234)
    && reads .w8 [0x36, 0x71] (.rolDpX 0x71) = true := by decide

theorem test_decode_ROR :
    reads .w8 [0x6A] (.rorAcc)
    && reads .w8 [0x6E, 0x34, 0x12] (.rorAbs 0x1234)
    && reads .w8 [0x66, 0x71] (.rorDp 0x71)
    && reads .w8 [0x7E, 0x34, 0x12] (.rorAbsX 0x1234)
    && reads .w8 [0x76, 0x71] (.rorDpX 0x71) = true := by decide

theorem test_decode_TRB :
    reads .w8 [0x1C, 0x34, 0x12] (.trbAbs 0x1234)
    && reads .w8 [0x14, 0x71] (.trbDp 0x71) = true := by decide

theorem test_decode_TSB :
    reads .w8 [0x0C, 0x34, 0x12] (.tsbAbs 0x1234)
    && reads .w8 [0x04, 0x71] (.tsbDp 0x71) = true := by decide

/-! ### One step, with the spec's examples -/

/-- R121, example at W = 16. -/
theorem test_andImm : ends (run (on65816 0xF0CC 0x6 []) [0x29, 0xAA, 0x8F]) 0x8088 0x84 0x8003 [] = true := by decide

/-- R122, example at W = 16. -/
theorem test_andAbs :
    ends (run (on65816 0xF0CC 0x6 [(0x7E1234, 0xAA), (0x7E1235, 0x8F)]) [0x2D, 0x34, 0x12]) 0x8088 0x84 0x8003 [] = true := by decide

/-- R123, example at W = 16. -/
theorem test_andLong :
    ends (run (on65816 0xF0CC 0x6 [(0x7F1234, 0xAA), (0x7F1235, 0x8F)]) [0x2F, 0x34, 0x12, 0x7F]) 0x8088 0x84 0x8004 [] = true := by decide

/-- R124, example at W = 16. -/
theorem test_andDp :
    ends (run { on65816 0xF0CC 0x6 [(0x170, 0xAA), (0x171, 0x8F)] with d := 0x100 } [0x25, 0x70]) 0x8088 0x84 0x8002 [] = true := by decide

/-- R125, example at W = 16. -/
theorem test_andDpInd :
    ends (run { on65816 0xF0CC 0x6 [(0x120, 0x34), (0x121, 0x12), (0x7E1234, 0xAA), (0x7E1235, 0x8F)] with d := 0x100 } [0x32, 0x20]) 0x8088 0x84 0x8002 [] = true := by decide

/-- R126, example at W = 16. -/
theorem test_andDpIndL :
    ends (run { on65816 0xF0CC 0x6 [(0x120, 0x34), (0x121, 0x12), (0x122, 0x7F), (0x7F1234, 0xAA), (0x7F1235, 0x8F)] with d := 0x100 } [0x27, 0x20]) 0x8088 0x84 0x8002 [] = true := by decide

/-- R127, example at W = 16. -/
theorem test_andAbsX :
    ends (run { on65816 0xF0CC 0x6 [(0x7F0010, 0xAA), (0x7F0011, 0x8F)] with x := 0x20 } [0x3D, 0xF0, 0xFF]) 0x8088 0x84 0x8003 [] = true := by decide

/-- R128, example at W = 16. -/
theorem test_andLongX :
    ends (run { on65816 0xF0CC 0x6 [(0x7F1254, 0xAA), (0x7F1255, 0x8F)] with x := 0x20 } [0x3F, 0x34, 0x12, 0x7F]) 0x8088 0x84 0x8004 [] = true := by decide

/-- R129, example at W = 16. -/
theorem test_andAbsY :
    ends (run { on65816 0xF0CC 0x6 [(0x7F0010, 0xAA), (0x7F0011, 0x8F)] with y := 0x20 } [0x39, 0xF0, 0xFF]) 0x8088 0x84 0x8003 [] = true := by decide

/-- R130, example at W = 16. -/
theorem test_andDpX :
    ends (run { on65816 0xF0CC 0x6 [(0x210, 0xAA), (0x211, 0x8F)] with x := 0x20, d := 0x100 } [0x35, 0xF0]) 0x8088 0x84 0x8002 [] = true := by decide

/-- R131, example at W = 16. -/
theorem test_andDpXInd :
    ends (run { on65816 0xF0CC 0x6 [(0x210, 0x34), (0x211, 0x12), (0x7E1234, 0xAA), (0x7E1235, 0x8F)] with x := 0x20, d := 0x100 } [0x21, 0xF0]) 0x8088 0x84 0x8002 [] = true := by decide

/-- R132, example at W = 16. -/
theorem test_andDpIndY :
    ends (run { on65816 0xF0CC 0x6 [(0x120, 0xF0), (0x121, 0xFF), (0x7F0010, 0xAA), (0x7F0011, 0x8F)] with y := 0x20, d := 0x100 } [0x31, 0x20]) 0x8088 0x84 0x8002 [] = true := by decide

/-- R133, example at W = 16. -/
theorem test_andDpIndLY :
    ends (run { on65816 0xF0CC 0x6 [(0x120, 0x34), (0x121, 0x12), (0x122, 0x7F), (0x7F1254, 0xAA), (0x7F1255, 0x8F)] with y := 0x20, d := 0x100 } [0x37, 0x20]) 0x8088 0x84 0x8002 [] = true := by decide

/-- R134, example at W = 16. -/
theorem test_andSr :
    ends (run (on65816 0xF0CC 0x6 [(0x1F3, 0xAA), (0x1F4, 0x8F)]) [0x23, 0x3]) 0x8088 0x84 0x8002 [] = true := by decide

/-- R135, example at W = 16. -/
theorem test_andSrIndY :
    ends (run { on65816 0xF0CC 0x6 [(0x1F3, 0x34), (0x1F4, 0x12), (0x7E1254, 0xAA), (0x7E1255, 0x8F)] with y := 0x20 } [0x33, 0x3]) 0x8088 0x84 0x8002 [] = true := by decide

/-- R141, example at W = 8. -/
theorem test_bitImm : ends (run (on8 .cpu65C02 0xF 0xA6 []) [0x89, 0x40]) 0xF 0xA6 0x602 [] = true := by decide

/-- R142, example at W = 16. -/
theorem test_bitAbs :
    ends (run (on65816 0xF 0x6 [(0x7E1235, 0xC0)]) [0x2C, 0x34, 0x12]) 0xF 0xC6 0x8003 [] = true := by decide

/-- R143, example at W = 16. -/
theorem test_bitDp :
    ends (run { on65816 0xF 0x6 [(0x171, 0xC0)] with d := 0x100 } [0x24, 0x70]) 0xF 0xC6 0x8002 [] = true := by decide

/-- R144, example at W = 8. -/
theorem test_bitAbsX :
    ends (run { on8 .cpu65C02 0xF 0x26 [(0x1310, 0xC0)] with x := 0x20 } [0x3C, 0xF0, 0x12]) 0xF 0xE6 0x603 [] = true := by decide

/-- R145, example at W = 16. -/
theorem test_bitDpX :
    ends (run { on65816 0xF 0x6 [(0x211, 0xC0)] with x := 0x20, d := 0x100 } [0x34, 0xF0]) 0xF 0xC6 0x8002 [] = true := by decide

/-- R151, example at W = 8. -/
theorem test_eorImm : ends (run (on8 .cpu6502 0xCC 0x26 []) [0x49, 0xAA]) 0x66 0x24 0x602 [] = true := by decide

/-- R152, example at W = 8. -/
theorem test_eorAbs :
    ends (run (on8 .cpu6502 0xCC 0x26 [(0x1234, 0xAA)]) [0x4D, 0x34, 0x12]) 0x66 0x24 0x603 [] = true := by decide

/-- R153, example at W = 8. -/
theorem test_eorLong :
    ends (run (on65816 0x12CC 0x26 [(0x7F1234, 0xAA)]) [0x4F, 0x34, 0x12, 0x7F]) 0x1266 0x24 0x8004 [] = true := by decide

/-- R154, example at W = 8. -/
theorem test_eorDp :
    ends (run (on8 .cpu6502 0xCC 0x26 [(0x70, 0xAA)]) [0x45, 0x70]) 0x66 0x24 0x602 [] = true := by decide

/-- R155, example at W = 8. -/
theorem test_eorDpInd :
    ends (run (on8 .cpu65C02 0xCC 0x26 [(0x20, 0x34), (0x21, 0x12), (0x1234, 0xAA)]) [0x52, 0x20]) 0x66 0x24 0x602 [] = true := by decide

/-- R156, example at W = 8. -/
theorem test_eorDpIndL :
    ends (run { on65816 0x12CC 0x26 [(0x120, 0x34), (0x121, 0x12), (0x122, 0x7F), (0x7F1234, 0xAA)] with d := 0x100 } [0x47, 0x20]) 0x1266 0x24 0x8002 [] = true := by decide

/-- R157, example at W = 8. -/
theorem test_eorAbsX :
    ends (run { on8 .cpu6502 0xCC 0x26 [(0x1310, 0xAA)] with x := 0x20 } [0x5D, 0xF0, 0x12]) 0x66 0x24 0x603 [] = true := by decide

/-- R158, example at W = 8. -/
theorem test_eorLongX :
    ends (run { on65816 0x12CC 0x26 [(0x7F1254, 0xAA)] with x := 0x20 } [0x5F, 0x34, 0x12, 0x7F]) 0x1266 0x24 0x8004 [] = true := by decide

/-- R159, example at W = 8. -/
theorem test_eorAbsY :
    ends (run { on8 .cpu6502 0xCC 0x26 [(0x1310, 0xAA)] with y := 0x20 } [0x59, 0xF0, 0x12]) 0x66 0x24 0x603 [] = true := by decide

/-- R160, example at W = 8. -/
theorem test_eorDpX :
    ends (run { on8 .cpu6502 0xCC 0x26 [(0x10, 0xAA)] with x := 0x20 } [0x55, 0xF0]) 0x66 0x24 0x602 [] = true := by decide

/-- R161, example at W = 8. -/
theorem test_eorDpXInd :
    ends (run { on8 .cpu6502 0xCC 0x26 [(0x10, 0x34), (0x11, 0x12), (0x1234, 0xAA)] with x := 0x20 } [0x41, 0xF0]) 0x66 0x24 0x602 [] = true := by decide

/-- R162, example at W = 8. -/
theorem test_eorDpIndY :
    ends (run { on8 .cpu6502 0xCC 0x26 [(0x20, 0xF0), (0x21, 0x12), (0x1310, 0xAA)] with y := 0x20 } [0x51, 0x20]) 0x66 0x24 0x602 [] = true := by decide

/-- R163, example at W = 8. -/
theorem test_eorDpIndLY :
    ends (run { on65816 0x12CC 0x26 [(0x120, 0x34), (0x121, 0x12), (0x122, 0x7F), (0x7F1254, 0xAA)] with y := 0x20, d := 0x100 } [0x57, 0x20]) 0x1266 0x24 0x8002 [] = true := by decide

/-- R164, example at W = 8. -/
theorem test_eorSr :
    ends (run (on65816 0x12CC 0x26 [(0x1F3, 0xAA)]) [0x43, 0x3]) 0x1266 0x24 0x8002 [] = true := by decide

/-- R165, example at W = 8. -/
theorem test_eorSrIndY :
    ends (run { on65816 0x12CC 0x26 [(0x1F3, 0x34), (0x1F4, 0x12), (0x7E1254, 0xAA)] with y := 0x20 } [0x53, 0x3]) 0x1266 0x24 0x8002 [] = true := by decide

/-- R171, example at W = 16. -/
theorem test_oraImm : ends (run (on65816 0xC 0x6 []) [0x9, 0xA0, 0x80]) 0x80AC 0x84 0x8003 [] = true := by decide

/-- R172, example at W = 16. -/
theorem test_oraAbs :
    ends (run (on65816 0xC 0x6 [(0x7E1234, 0xA0), (0x7E1235, 0x80)]) [0xD, 0x34, 0x12]) 0x80AC 0x84 0x8003 [] = true := by decide

/-- R173, example at W = 16. -/
theorem test_oraLong :
    ends (run (on65816 0xC 0x6 [(0x7F1234, 0xA0), (0x7F1235, 0x80)]) [0xF, 0x34, 0x12, 0x7F]) 0x80AC 0x84 0x8004 [] = true := by decide

/-- R174, example at W = 16. -/
theorem test_oraDp :
    ends (run { on65816 0xC 0x6 [(0x170, 0xA0), (0x171, 0x80)] with d := 0x100 } [0x5, 0x70]) 0x80AC 0x84 0x8002 [] = true := by decide

/-- R175, example at W = 16. -/
theorem test_oraDpInd :
    ends (run { on65816 0xC 0x6 [(0x120, 0x34), (0x121, 0x12), (0x7E1234, 0xA0), (0x7E1235, 0x80)] with d := 0x100 } [0x12, 0x20]) 0x80AC 0x84 0x8002 [] = true := by decide

/-- R176, example at W = 16. -/
theorem test_oraDpIndL :
    ends (run { on65816 0xC 0x6 [(0x120, 0x34), (0x121, 0x12), (0x122, 0x7F), (0x7F1234, 0xA0), (0x7F1235, 0x80)] with d := 0x100 } [0x7, 0x20]) 0x80AC 0x84 0x8002 [] = true := by decide

/-- R177, example at W = 16. -/
theorem test_oraAbsX :
    ends (run { on65816 0xC 0x6 [(0x7F0010, 0xA0), (0x7F0011, 0x80)] with x := 0x20 } [0x1D, 0xF0, 0xFF]) 0x80AC 0x84 0x8003 [] = true := by decide

/-- R178, example at W = 16. -/
theorem test_oraLongX :
    ends (run { on65816 0xC 0x6 [(0x7F1254, 0xA0), (0x7F1255, 0x80)] with x := 0x20 } [0x1F, 0x34, 0x12, 0x7F]) 0x80AC 0x84 0x8004 [] = true := by decide

/-- R179, example at W = 16. -/
theorem test_oraAbsY :
    ends (run { on65816 0xC 0x6 [(0x7F0010, 0xA0), (0x7F0011, 0x80)] with y := 0x20 } [0x19, 0xF0, 0xFF]) 0x80AC 0x84 0x8003 [] = true := by decide

/-- R180, example at W = 16. -/
theorem test_oraDpX :
    ends (run { on65816 0xC 0x6 [(0x210, 0xA0), (0x211, 0x80)] with x := 0x20, d := 0x100 } [0x15, 0xF0]) 0x80AC 0x84 0x8002 [] = true := by decide

/-- R181, example at W = 16. -/
theorem test_oraDpXInd :
    ends (run { on65816 0xC 0x6 [(0x210, 0x34), (0x211, 0x12), (0x7E1234, 0xA0), (0x7E1235, 0x80)] with x := 0x20, d := 0x100 } [0x1, 0xF0]) 0x80AC 0x84 0x8002 [] = true := by decide

/-- R182, example at W = 16. -/
theorem test_oraDpIndY :
    ends (run { on65816 0xC 0x6 [(0x120, 0xF0), (0x121, 0xFF), (0x7F0010, 0xA0), (0x7F0011, 0x80)] with y := 0x20, d := 0x100 } [0x11, 0x20]) 0x80AC 0x84 0x8002 [] = true := by decide

/-- R183, example at W = 16. -/
theorem test_oraDpIndLY :
    ends (run { on65816 0xC 0x6 [(0x120, 0x34), (0x121, 0x12), (0x122, 0x7F), (0x7F1254, 0xA0), (0x7F1255, 0x80)] with y := 0x20, d := 0x100 } [0x17, 0x20]) 0x80AC 0x84 0x8002 [] = true := by decide

/-- R184, example at W = 16. -/
theorem test_oraSr :
    ends (run (on65816 0xC 0x6 [(0x1F3, 0xA0), (0x1F4, 0x80)]) [0x3, 0x3]) 0x80AC 0x84 0x8002 [] = true := by decide

/-- R185, example at W = 16. -/
theorem test_oraSrIndY :
    ends (run { on65816 0xC 0x6 [(0x1F3, 0x34), (0x1F4, 0x12), (0x7E1254, 0xA0), (0x7E1255, 0x80)] with y := 0x20 } [0x13, 0x3]) 0x80AC 0x84 0x8002 [] = true := by decide

/-- R195, example at W = 8. -/
theorem test_aslAcc : ends (run (on8 .cpu6502 0x81 0x26 []) [0xA]) 0x2 0x25 0x601 [] = true := by decide

/-- R196, example at W = 8. -/
theorem test_aslAbs :
    ends (run (on8 .cpu6502 0x55 0x26 [(0x1234, 0x81)]) [0xE, 0x34, 0x12]) 0x55 0x25 0x603 [(0x1234, 0x2)] = true := by decide

/-- R197, example at W = 8. -/
theorem test_aslDp :
    ends (run (on8 .cpu6502 0x55 0x26 [(0x70, 0x81)]) [0x6, 0x70]) 0x55 0x25 0x602 [(0x70, 0x2)] = true := by decide

/-- R198, example at W = 8. -/
theorem test_aslAbsX :
    ends (run { on8 .cpu6502 0x55 0x26 [(0x1310, 0x81)] with x := 0x20 } [0x1E, 0xF0, 0x12]) 0x55 0x25 0x603 [(0x1310, 0x2)] = true := by decide

/-- R199, example at W = 8. -/
theorem test_aslDpX :
    ends (run { on8 .cpu6502 0x55 0x26 [(0x10, 0x81)] with x := 0x20 } [0x16, 0xF0]) 0x55 0x25 0x602 [(0x10, 0x2)] = true := by decide

/-- R200, example at W = 16. -/
theorem test_lsrAcc : ends (run (on65816 0x8001 0x6 []) [0x4A]) 0x4000 0x5 0x8001 [] = true := by decide

/-- R201, example at W = 16. -/
theorem test_lsrAbs :
    ends (run (on65816 0x5555 0x6 [(0x7E1234, 0x1), (0x7E1235, 0x80)]) [0x4E, 0x34, 0x12]) 0x5555 0x5 0x8003 [(0x7E1234, 0x0), (0x7E1235, 0x40)] = true := by decide

/-- R202, example at W = 16. -/
theorem test_lsrDp :
    ends (run { on65816 0x5555 0x6 [(0x170, 0x1), (0x171, 0x80)] with d := 0x100 } [0x46, 0x70]) 0x5555 0x5 0x8002 [(0x170, 0x0), (0x171, 0x40)] = true := by decide

/-- R203, example at W = 16. -/
theorem test_lsrAbsX :
    ends (run { on65816 0x5555 0x6 [(0x7F0010, 0x1), (0x7F0011, 0x80)] with x := 0x20 } [0x5E, 0xF0, 0xFF]) 0x5555 0x5 0x8003 [(0x7F0010, 0x0), (0x7F0011, 0x40)] = true := by decide

/-- R204, example at W = 16. -/
theorem test_lsrDpX :
    ends (run { on65816 0x5555 0x6 [(0x210, 0x1), (0x211, 0x80)] with x := 0x20, d := 0x100 } [0x56, 0xF0]) 0x5555 0x5 0x8002 [(0x210, 0x0), (0x211, 0x40)] = true := by decide

/-- R205, example at W = 8. -/
theorem test_rolAcc : ends (run (on8 .cpu6502 0x81 0x27 []) [0x2A]) 0x3 0x25 0x601 [] = true := by decide

/-- R206, example at W = 8. -/
theorem test_rolAbs :
    ends (run (on8 .cpu6502 0x55 0x27 [(0x1234, 0x81)]) [0x2E, 0x34, 0x12]) 0x55 0x25 0x603 [(0x1234, 0x3)] = true := by decide

/-- R207, example at W = 8. -/
theorem test_rolDp :
    ends (run (on8 .cpu6502 0x55 0x27 [(0x70, 0x81)]) [0x26, 0x70]) 0x55 0x25 0x602 [(0x70, 0x3)] = true := by decide

/-- R208, example at W = 8. -/
theorem test_rolAbsX :
    ends (run { on8 .cpu6502 0x55 0x27 [(0x1310, 0x81)] with x := 0x20 } [0x3E, 0xF0, 0x12]) 0x55 0x25 0x603 [(0x1310, 0x3)] = true := by decide

/-- R209, example at W = 8. -/
theorem test_rolDpX :
    ends (run { on8 .cpu6502 0x55 0x27 [(0x10, 0x81)] with x := 0x20 } [0x36, 0xF0]) 0x55 0x25 0x602 [(0x10, 0x3)] = true := by decide

/-- R210, example at W = 16. -/
theorem test_rorAcc : ends (run (on65816 0x8001 0x7 []) [0x6A]) 0xC000 0x85 0x8001 [] = true := by decide

/-- R211, example at W = 16. -/
theorem test_rorAbs :
    ends (run (on65816 0x5555 0x7 [(0x7E1234, 0x1), (0x7E1235, 0x80)]) [0x6E, 0x34, 0x12]) 0x5555 0x85 0x8003 [(0x7E1234, 0x0), (0x7E1235, 0xC0)] = true := by decide

/-- R212, example at W = 16. -/
theorem test_rorDp :
    ends (run { on65816 0x5555 0x7 [(0x170, 0x1), (0x171, 0x80)] with d := 0x100 } [0x66, 0x70]) 0x5555 0x85 0x8002 [(0x170, 0x0), (0x171, 0xC0)] = true := by decide

/-- R213, example at W = 16. -/
theorem test_rorAbsX :
    ends (run { on65816 0x5555 0x7 [(0x7F0010, 0x1), (0x7F0011, 0x80)] with x := 0x20 } [0x7E, 0xF0, 0xFF]) 0x5555 0x85 0x8003 [(0x7F0010, 0x0), (0x7F0011, 0xC0)] = true := by decide

/-- R214, example at W = 16. -/
theorem test_rorDpX :
    ends (run { on65816 0x5555 0x7 [(0x210, 0x1), (0x211, 0x80)] with x := 0x20, d := 0x100 } [0x76, 0xF0]) 0x5555 0x85 0x8002 [(0x210, 0x0), (0x211, 0xC0)] = true := by decide

/-- R221, example at W = 16. -/
theorem test_trbAbs :
    ends (run (on65816 0xF0F 0x6 [(0x7E1234, 0x3C), (0x7E1235, 0x3C)]) [0x1C, 0x34, 0x12]) 0xF0F 0x4 0x8003 [(0x7E1234, 0x30), (0x7E1235, 0x30)] = true := by decide

/-- R222, example at W = 8. -/
theorem test_trbDp :
    ends (run (on8 .cpu65C02 0xF 0x26 [(0x70, 0x3C)]) [0x14, 0x70]) 0xF 0x24 0x602 [(0x70, 0x30)] = true := by decide

/-- R223, example at W = 16. -/
theorem test_tsbAbs :
    ends (run (on65816 0xF0F 0x6 [(0x7E1234, 0x30), (0x7E1235, 0x30)]) [0xC, 0x34, 0x12]) 0xF0F 0x6 0x8003 [(0x7E1234, 0x3F), (0x7E1235, 0x3F)] = true := by decide

/-- R224, example at W = 8. -/
theorem test_tsbDp :
    ends (run (on8 .cpu65C02 0xF 0x26 [(0x70, 0x30)]) [0x4, 0x70]) 0xF 0x26 0x602 [(0x70, 0x3F)] = true := by decide

/-! ### One step, with the spec's vectors -/

/-- The spec's vector V-AND-6. -/
theorem test_V_AND_6 : ends (run (on65816 0x12CC 0x24 []) [0x29, 0xAA]) 0x1288 0xA4 0x8002 [] = true := by decide

/-- The spec's vector V-AND-10. -/
theorem test_V_AND_10 :
    ends (run (on65816 0xFFFF 0x4 [(0x7FFFFF, 0x34), (0x800000, 0x12)]) [0x2F, 0xFF, 0xFF, 0x7F]) 0x1234 0x4 0x8004 [] = true := by decide

/-- The spec's vector V-BIT-4. -/
theorem test_V_BIT_4 :
    ends (run (on8 .cpu6502 0x0 0x24 [(0x70, 0xFF)]) [0x24, 0x70]) 0x0 0xE6 0x602 [] = true := by decide

/-- The spec's vector V-BIT-6. -/
theorem test_V_BIT_6 : ends (run (on8 .cpu65C02 0x1 0xE6 []) [0x89, 0x1]) 0x1 0xE4 0x602 [] = true := by decide

/-- The spec's vector V-BIT-10. -/
theorem test_V_BIT_10 :
    ends (run (on65816 0xFFFF 0xC4 [(0x7E1234, 0xC0)]) [0x2C, 0x34, 0x12]) 0xFFFF 0x4 0x8003 [] = true := by decide

/-- The spec's vector V-EOR-5. -/
theorem test_V_EOR_5 :
    ends (run { on8 .cpu6502 0xF 0x24 [(0x10, 0xF0)] with y := 0x20 } [0x59, 0xF0, 0xFF]) 0xFF 0xA4 0x603 [] = true := by decide

/-- The spec's vector V-EOR-6. -/
theorem test_V_EOR_6 : ends (run (on65816 0x12FF 0x24 []) [0x49, 0xFF]) 0x1200 0x26 0x8002 [] = true := by decide

/-- The spec's vector V-ORA-5. -/
theorem test_V_ORA_5 :
    ends (run { on8 .cpu6502 0x1 0x24 [(0x0, 0x12), (0xFF, 0x34), (0x1234, 0x80)] with x := 0xF } [0x1, 0xF0]) 0x81 0xA4 0x602 [] = true := by decide

/-- The spec's vector V-ASL-6. -/
theorem test_V_ASL_6 : ends (run (on65816 0x1280 0x24 []) [0xA]) 0x1200 0x27 0x8001 [] = true := by decide

/-- The spec's vector V-ASL-9. -/
theorem test_V_ASL_9 :
    ends (run (on65816 0x0 0x4 [(0x7EFFFF, 0x80)]) [0xE, 0xFF, 0xFF]) 0x0 0x4 0x8003 [(0x7EFFFF, 0x0), (0x7F0000, 0x1)] = true := by decide

/-- The spec's vector V-LSR-6. -/
theorem test_V_LSR_6 : ends (run (on65816 0x100 0xA4 []) [0x4A]) 0x100 0x26 0x8001 [] = true := by decide

/-- The spec's vector V-ROL-5. -/
theorem test_V_ROL_5 :
    ends (run { on65816 0x0 0x5 [(0x1, 0x80)] with d := 0xFFF0 } [0x26, 0x10]) 0x0 0x5 0x8002 [(0x0, 0x1), (0x1, 0x0)] = true := by decide

/-- The spec's vector V-ROR-6. -/
theorem test_V_ROR_6 : ends (run (on65816 0x1 0x25 []) [0x6A]) 0x80 0xA5 0x8001 [] = true := by decide

/-- The spec's vector V-TRB-4. -/
theorem test_V_TRB_4 :
    ends (run (on8 .cpu65C02 0xFF 0x26 [(0x2000, 0xFF)]) [0x1C, 0x0, 0x20]) 0xFF 0x24 0x603 [(0x2000, 0x0)] = true := by decide

/-- The spec's vector V-TSB-1. -/
theorem test_V_TSB_1 :
    ends (run (on8 .cpu65C02 0xF 0xE5 [(0x40, 0x30)]) [0x4, 0x40]) 0xF 0xE7 0x602 [(0x40, 0x3F)] = true := by decide

/-- The spec's vector V-ADR-2. -/
theorem test_V_ADR_2 :
    ends (run { on8 .cpu6502 0x0 0x24 [(0x0, 0xFF), (0xFF, 0xFF)] with y := 0x1 } [0x11, 0xFF]) 0xFF 0xA4 0x602 [] = true := by decide

/-- The spec's vector V-ADR-8. -/
theorem test_V_ADR_8 :
    ends (run { on65816 0x0 0x24 [(0x1, 0x88)] with x := 0x2 } [0x1F, 0xFF, 0xFF, 0xFF]) 0x88 0xA4 0x8004 [] = true := by decide

/-- The spec's vector V-ADR-11. -/
theorem test_V_ADR_11 :
    ends (run { on65816 0x0 0x24 [(0x10, 0xBB), (0x120, 0xF0), (0x121, 0xFF), (0x122, 0xFF)] with y := 0x20, d := 0x100 } [0x17, 0x20]) 0xBB 0xA4 0x8002 [] = true := by decide

/-- The spec's vector V-ADR-14. -/
theorem test_V_ADR_14 :
    ends (run { on65816 0x0 0x24 [(0x0, 0x40), (0x7E4000, 0x5A)] with d := 0xFF00 } [0x12, 0xFF]) 0x5A 0x24 0x8002 [] = true := by decide

/-- The spec's vector V-DEC-1. -/
theorem test_V_DEC_1 : stops (run (on8 .cpu6502 0x0 0x24 []) [0xEA]) (.unknownOpcode 0xEA) = true := by decide

/-- The spec's vector V-DEC-3. -/
theorem test_V_DEC_3 :
    stops (run (on8 .cpu65C02 0x0 0x24 []) [0x43, 0x1]) (.notAvailableOnCpu 0x43 .cpu65C02) = true := by decide

/-- The spec's vector V-DEC-5. -/
theorem test_V_DEC_5 :
    ends (run { on65816 0x0 0x4 [] with pc := 0xFFFE } [0x9, 0x34, 0x12]) 0x1234 0x4 0x1 [] = true := by decide


/-! ### For each statement with hypotheses, states and operands that meet them -/

/-- A 65816 with m = 0, index registers at their largest value, and a pointer and operands in memory. -/
def wide : State :=
  { on65816 0xF14C 0x07 [(0x0100, 0x34), (0x01FF, 0x56), (0x0200, 0x12), (0x7EFFFF, 0x80)] with
    x := 0xFFFF, y := 0xFFFF, d := 0x0100 }

/-- The same machine with the four bytes of `AND long` at 01:FFFE, FFFF, 0000, 0001. -/
def atTop : State := { wide with pc := 0xFFFE }.placeBytes 0 [0x2F, 0x56, 0x34, 0x12]

/-- A 6502 about to run an instruction it does not have, `TRB dp`. -/
def lacking : State := (on8 .cpu6502 1 0x24 []).placeBytes 0 [0x14, 0x40]

/-- The same machine with plain memory up to 7E:FFFF only, about to run `TSB addr` just below that end. -/
def walled : State := { wide with memAdmit := [⟨0, 0x7F0000⟩] }.placeBytes 0 [0x0C, 0xFE, 0xFF]

/-- Nothing refuses the instruction, as a computation. -/
def ready (i : Instr) (s : State) (touched : List Addr) : Bool :=
  !s.emulating && decide (s.cpu ∈ i.cpus) && touched.all s.admits

theorem ready_of {i : Instr} {s : State} {touched : List Addr} (h : ready i s touched = true) :
    Claims.Ready i s touched := by
  simp only [ready, Bool.and_eq_true, Bool.not_eq_true', decide_eq_true_eq, List.all_eq_true] at h
  exact ⟨h.1.1, h.1.2, h.2⟩

theorem ready_all {l : List Instr} {s : State} {f : Instr → List Addr}
    (h : l.all (fun i => ready i s (f i)) = true) : ∀ i ∈ l, Claims.Ready i s (f i) :=
  fun i hi => ready_of (List.all_eq_true.1 h i hi)

theorem witness_DecodeOfEncodeIsTheInstruction : (Instr.andImm 0xFF).wellFormed .w8 = true
    ∧ (Instr.andImm 0xFFFF).wellFormed .w16 = true ∧ Instr.rorAcc.wellFormed .w8 = true := by decide

theorem witness_EncodeOfDecodeIsTheBytes : decode .w16 [0x29, 0xFF, 0xFF, 0x01] = .ok (.andImm 0xFFFF, [0x01]) := rfl

theorem witness_TheOpcodeByteAloneSelectsMnemonicAndMode : 
    decode .w8 [0x89, 0xFF, 0x01] = .ok (.bitImm 0xFF, [0x01])
    ∧ decode .w16 [0x89, 0x00, 0xFF] = .ok (.bitImm 0xFF00, []) := ⟨rfl, rfl⟩

theorem witness_LengthDependsOnWOnlyForImmediates : (Instr.bitImm 0).operand.mode = .IMM := rfl

theorem witness_OpcodeMapHasExactlyTheListedRows : (0x01, .ORA, .DPXIND) ∈ Claims.opcodeRows
    ∧ ∀ row ∈ Claims.opcodeRows, row.1 ≠ 0xEA := by decide

theorem witness_StepRunsTheDecodedInstruction : atTop.emulating = false
    ∧ decode atTop.width atTop.fetchWindow = .ok (.andLong 0x123456, []) ∧ atTop.cpu ∈ (Instr.andLong 0x123456).cpus
    ∧ ∀ k, k < (Instr.andLong 0x123456).length atTop.width → atTop.admits (atTop.fetchAddr k) = true := ⟨rfl, rfl, by decide, by decide⟩

theorem witness_StepRunsTheEncodedInstruction : atTop.emulating = false
    ∧ atTop.cpu ∈ (Instr.andLong 0x123456).cpus ∧ (Instr.andLong 0x123456).wellFormed atTop.width = true
    ∧ ∀ k, k < (Instr.andLong 0x123456).length atTop.width → atTop.admits (atTop.fetchAddr k) = true
        ∧ (encode atTop.width (.andLong 0x123456))[k]? = some (atTop.fetch8 k) := ⟨rfl, by decide, rfl, by decide⟩

theorem witness_StepCompletesExactlyWhenNothingRefusesIt : ∃ t, step atTop = .next t := ⟨_, rfl⟩

theorem witness_PlacedTableWordIsTheNextInstructionRun : decodeTableWord 16 0xFF29 = some (.andImm 0xFF)
    ∧ State.reset.width = .w8 ∧ State.reset.emulating = false ∧ State.reset.mem.wf = true
    ∧ State.reset.cpu ∈ (Instr.andImm 0xFF).cpus := ⟨rfl, rfl, rfl, rfl, by decide⟩

theorem witness_AndCompletesWithTheBitwiseAnd : ∀ i ∈ [Instr.andImm 0xFFFF, .andAbs 0xFFFF, .andLong 0xFFFFFF, .andDp 0xFF, .andDpInd 0xFF, .andDpIndL 0xFF,
      .andAbsX 0xFFFF, .andLongX 0xFFFFFF, .andAbsY 0xFFFF, .andDpX 0xFF, .andDpXInd 0xFF, .andDpIndY 0xFF,
      .andDpIndLY 0xFF, .andSr 0xFF, .andSrIndY 0xFF],
      Claims.Ready i wide (readAddrs wide.width i.operand wide) := 
  ready_all (by decide)

theorem witness_EorCompletesWithTheBitwiseExclusiveOr : ∀ i ∈ [Instr.eorImm 0xFFFF, .eorAbs 0xFFFF, .eorLong 0xFFFFFF, .eorDp 0xFF, .eorDpInd 0xFF, .eorDpIndL 0xFF,
      .eorAbsX 0xFFFF, .eorLongX 0xFFFFFF, .eorAbsY 0xFFFF, .eorDpX 0xFF, .eorDpXInd 0xFF, .eorDpIndY 0xFF,
      .eorDpIndLY 0xFF, .eorSr 0xFF, .eorSrIndY 0xFF],
      Claims.Ready i wide (readAddrs wide.width i.operand wide) := 
  ready_all (by decide)

theorem witness_OraCompletesWithTheBitwiseOr : ∀ i ∈ [Instr.oraImm 0xFFFF, .oraAbs 0xFFFF, .oraLong 0xFFFFFF, .oraDp 0xFF, .oraDpInd 0xFF, .oraDpIndL 0xFF,
      .oraAbsX 0xFFFF, .oraLongX 0xFFFFFF, .oraAbsY 0xFFFF, .oraDpX 0xFF, .oraDpXInd 0xFF, .oraDpIndY 0xFF,
      .oraDpIndLY 0xFF, .oraSr 0xFF, .oraSrIndY 0xFF],
      Claims.Ready i wide (readAddrs wide.width i.operand wide) := 
  ready_all (by decide)

theorem witness_BitOnMemoryCompletesAndWritesOnlyFlags : ∀ i ∈ [Instr.bitAbs 0xFFFF, .bitDp 0xFF, .bitAbsX 0xFFFF, .bitDpX 0xFF],
      Claims.Ready i wide (readAddrs wide.width i.operand wide) := 
  ready_all (by decide)

theorem witness_BitImmediateCompletesAndWritesOnlyZ : Claims.Ready (.bitImm 0xFFFF) wide [] := 
  ready_of (i := .bitImm 0xFFFF) rfl

theorem witness_AslCompletesWithTheValueShiftedLeft : wide.mem.wf = true ∧ ∀ i ∈ [Instr.aslAcc, .aslAbs 0xFFFF, .aslDp 0xFF, .aslAbsX 0xFFFF, .aslDpX 0xFF],
      Claims.Ready i wide (modifyAddrs wide.width i.operand wide) := 
  ⟨rfl, ready_all (by decide)⟩

theorem witness_LsrCompletesWithTheValueShiftedRight : wide.mem.wf = true ∧ ∀ i ∈ [Instr.lsrAcc, .lsrAbs 0xFFFF, .lsrDp 0xFF, .lsrAbsX 0xFFFF, .lsrDpX 0xFF],
      Claims.Ready i wide (modifyAddrs wide.width i.operand wide) := 
  ⟨rfl, ready_all (by decide)⟩

theorem witness_RolCompletesWithTheValueRotatedLeft : wide.mem.wf = true ∧ ∀ i ∈ [Instr.rolAcc, .rolAbs 0xFFFF, .rolDp 0xFF, .rolAbsX 0xFFFF, .rolDpX 0xFF],
      Claims.Ready i wide (modifyAddrs wide.width i.operand wide) := 
  ⟨rfl, ready_all (by decide)⟩

theorem witness_RorCompletesWithTheValueRotatedRight : wide.mem.wf = true ∧ ∀ i ∈ [Instr.rorAcc, .rorAbs 0xFFFF, .rorDp 0xFF, .rorAbsX 0xFFFF, .rorDpX 0xFF],
      Claims.Ready i wide (modifyAddrs wide.width i.operand wide) := 
  ⟨rfl, ready_all (by decide)⟩

theorem witness_TrbCompletesClearingTheSelectedBits : wide.mem.wf = true ∧ ∀ i ∈ [Instr.trbAbs 0xFFFF, .trbDp 0xFF],
      Claims.Ready i wide (modifyAddrs wide.width i.operand wide) := 
  ⟨rfl, ready_all (by decide)⟩

theorem witness_TsbCompletesSettingTheSelectedBits : wide.mem.wf = true ∧ ∀ i ∈ [Instr.tsbAbs 0xFFFF, .tsbDp 0xFF],
      Claims.Ready i wide (modifyAddrs wide.width i.operand wide) := 
  ⟨rfl, ready_all (by decide)⟩

theorem witness_AslIsAnUnsignedDoubling : (0 : BitVec (Width.bits .w8)).toNat = 0
    ∧ (0x80 : BitVec (Width.bits .w8)).toNat = 2 ^ Width.msb .w8
    ∧ (0x4000 : BitVec (Width.bits .w16)).toNat = 2 ^ (Width.msb .w16 - 1)
    ∧ Instr.aslAcc.mnemonic = .ASL ∧ ∃ t, exec .aslAcc wide = .next t := ⟨rfl, rfl, rfl, rfl, _, rfl⟩

theorem witness_LsrIsAnUnsignedHalving : (0 : BitVec (Width.bits .w8)).toNat = 0 ∧ (1 : BitVec (Width.bits .w8)).toNat = 1
    ∧ (0xFFFF : BitVec (Width.bits .w16)).toNat = 2 ^ Width.bits .w16 - 1
    ∧ (Instr.lsrDp 0xFF).mnemonic = .LSR ∧ ∃ t, exec (.lsrDp 0xFF) wide = .next t := ⟨rfl, rfl, rfl, rfl, _, rfl⟩

theorem witness_RolIsADoublingThroughTheCarry : (0 : BitVec (Width.bits .w8)).toNat = 0
    ∧ (0x8000 : BitVec (Width.bits .w16)).toNat = 2 ^ Width.msb .w16
    ∧ (0xFF : BitVec (Width.bits .w8)).toNat = 2 ^ Width.bits .w8 - 1
    ∧ Instr.rolAcc.mnemonic = .ROL ∧ ∃ t, exec .rolAcc wide = .next t := ⟨rfl, rfl, rfl, rfl, _, rfl⟩

theorem witness_RorIsAHalvingThroughTheCarry : (0 : BitVec (Width.bits .w8)).toNat = 0
    ∧ (1 : BitVec (Width.bits .w16)).toNat = 1
    ∧ Instr.rorAcc.mnemonic = .ROR ∧ ∃ t, exec .rorAcc wide = .next t := ⟨rfl, rfl, rfl, _, rfl⟩

theorem witness_VIsWrittenByBitOnMemoryOnly : (∃ t, exec (.bitAbs 0xFFFF) wide = .next t)
    ∧ (Instr.bitAbs 0xFFFF).mnemonic = .BIT ∧ (Instr.bitAbs 0xFFFF).operand.mode ≠ .IMM
    ∧ (∃ t, exec (.bitImm 0xFFFF) wide = .next t) ∧ (Instr.bitImm 0xFFFF).operand.mode = .IMM := ⟨⟨_, rfl⟩, rfl, by decide, ⟨_, rfl⟩, rfl⟩

theorem witness_CIsWrittenByShiftsAndReadByRotatesOnly : wide.mem.wf = true ∧ (∃ t, exec .aslAcc wide = .next t)
    ∧ (∃ t, exec (.lsrDp 0xFF) wide = .next t) ∧ (∃ t, exec (.rolAbs 0xFFFF) wide = .next t)
    ∧ (∃ t, exec .rorAcc wide = .next t) ∧ ∃ t, exec (.andImm 0xFFFF) wide = .next t := 
  ⟨by decide, ⟨_, rfl⟩, ⟨_, rfl⟩, ⟨_, rfl⟩, ⟨_, rfl⟩, _, rfl⟩

theorem witness_ZIsWrittenByEveryInstruction : wide.mem.wf = true ∧ (∃ t, exec (.oraImm 0) wide = .next t)
    ∧ (∃ t, exec .lsrAcc wide = .next t) ∧ ∃ t, exec (.tsbDp 0xFF) wide = .next t := 
  ⟨by decide, ⟨_, rfl⟩, ⟨_, rfl⟩, _, rfl⟩

theorem witness_ReadOpReadsTheOperandOfItsMode : 
    decode .w8 [0x29, 0xFF, 0x01, 0x02] = .ok (.andImm 0xFF, [0x01] ++ [0x02])
    ∧ decode .w16 [0x29, 0xFF, 0x01, 0x02] = .ok (.andImm 0x1FF, [] ++ [0x02])
    ∧ (Instr.andImm 0xFF).operand = .imm 0xFF := ⟨rfl, rfl, rfl⟩

theorem witness_EffectiveAddressesOnThe6502And65C02 : 
    (on8 .cpu6502 0xFF 0x24 []).cpu ≠ .cpu65816 ∧ (on8 .cpu6502 0xFF 0x24 []).registersWf = true := by decide

theorem witness_EffectiveAddressesOnThe65816 : wide.cpu = .cpu65816 := rfl

theorem witness_SecondByteOfA16BitOperand : wide.cpu = .cpu65816
    ∧ (Operand.mem (.sr 0xFF)).mode ∈ [Mode.DP, .DPX, .SR] ∧ (Operand.mem (.long 0xFFFFFF)).mode ∉ [Mode.DP, .DPX, .SR] := by decide

theorem witness_AStoreIsSeenByEveryLaterRead : wide.mem.wf = true ∧ (EA.far 0x018001).ea1 ≠ (EA.far 0x018001).ea0
    ∧ wide.fetchAddr 1 = (EA.far 0x018001).ea0 ∧ wide.fetchAddr 2 = (EA.far 0x018001).ea1 := by decide

theorem witness_EmulationModeIsRefused : ({ wide with e := true } : State).cpu = .cpu65816 ∧ ({ wide with e := true } : State).e = true := ⟨rfl, rfl⟩

theorem witness_UnavailableInstructionsAreRefused : lacking.emulating = false
    ∧ (Instr.trbDp 0x40).opcode ∈ Claims.twoMarkOpcodes ∧ lacking.cpu = .cpu6502
    ∧ (Instr.andLong 0).opcode ∈ Claims.oneMarkOpcodes
    ∧ lacking.admits (lacking.fetchAddr 0) = true ∧ lacking.cpu ∉ (Instr.trbDp 0x40).cpus
    ∧ decode lacking.width lacking.fetchWindow = .ok (.trbDp 0x40, [0, 0]) := by
  refine ⟨rfl, by decide, rfl, by decide, by decide, by decide, rfl⟩

theorem witness_UnlistedOpcodesAreRefused : State.reset.emulating = false
    ∧ State.reset.admits (State.reset.fetchAddr 0) = true ∧ ∀ row ∈ Claims.opcodeRows, row.1 ≠ State.reset.fetch8 0 := by decide

theorem witness_AccessesOutsidePlainMemoryAreRefused : walled.emulating = false
    ∧ walled.cpu ∈ (Instr.tsbAbs 0xFFFF).cpus
    ∧ Claims.touched (.tsbAbs 0xFFFF) walled = [0x7EFFFF] ++ 0x7F0000 :: [0x7F0000, 0x7EFFFF]
    ∧ walled.admits 0x7F0000 = false ∧ (∀ b ∈ [(0x7EFFFF : Addr)], walled.admits b = true)
    ∧ Claims.touched (.tsbAbs 0xFFFE) walled = [0x7EFFFE, 0x7EFFFF, 0x7EFFFF, 0x7EFFFE]
    ∧ ∀ b ∈ [(0x7EFFFE : Addr), 0x7EFFFF], walled.admits b = true := 
  ⟨rfl, by decide, by rfl, by rfl, List.all_eq_true.1 rfl, by rfl, List.all_eq_true.1 rfl⟩

theorem witness_EveryStepKeepsTheInvariant : atTop.wf = true ∧ ∃ t, step atTop = .next t := ⟨by decide, _, rfl⟩

theorem witness_NoStepChangesTheOtherRegisters : ∃ t, step atTop = .next t := ⟨_, rfl⟩

theorem witness_OnlyTheDestinationChanges : (∃ t, exec (.tsbAbs 0xFFFF) wide = .next t)
    ∧ (Instr.tsbAbs 0xFFFF).mnemonic ∉ [Mnemonic.AND, .EOR, .ORA] ∧ (Instr.tsbAbs 0xFFFF).operand ≠ .acc := 
  ⟨⟨_, rfl⟩, by decide⟩

theorem witness_AFinishedRunEndsAtEndPcWithTheLaunchWidth : atTop.wf = true
    ∧ (∃ t, runTo 1 2 1 atTop = .finished t) ∧ atTop.finished 1 0xFFFE = true
    ∧ State.reset.finished 0 1 = false ∧ step State.reset = .refused (.unknownOpcode 0) := ⟨by decide, ⟨_, rfl⟩, rfl, rfl, rfl⟩

theorem witness_TheHighByteOfAIsNeitherReadNorChangedAtWidth8 : 
    (on65816 0xFF80 0x24 []).width = .w8 ∧ ∃ t, exec .aslAcc (on65816 0xFF80 0x24 []) = .next t := ⟨rfl, _, rfl⟩

theorem witness_TheBitsDIXOfPAreNeverRead : (2 = 2 ∨ 2 = 3 ∨ 2 = 4) ∧ (3 = 2 ∨ 3 = 3 ∨ 3 = 4) ∧ (4 = 2 ∨ 4 = 3 ∨ 4 = 4)
    ∧ ∃ t, step atTop = .next t := ⟨by decide, by decide, by decide, _, rfl⟩

theorem witness_BytesOutsidePlainMemoryAreNeverObserved : walled.mem.wf = true ∧ walled.admits 0x7F0000 = false
    ∧ ∃ t, step walled = .next t := ⟨by decide, by decide, _, rfl⟩

end Sys2Proof.Tests
end

