-- ==== Sys2Proof/Proofs/Scope.lean ====
section
/-! The operand width W (R4): what selects it, and that the accumulator value and the bytes of a memory operand are
W bits wide. -/

open Sys2Proof Sys2Proof.Machine

namespace Sys2Proof.Scope

/-- What selects W, as a number of bits (R4). -/
theorem width_bits (s : State) :
    s.width.bits = if s.cpu = .cpu65816 ∧ s.flagM = false then 16 else 8 := by
  unfold State.width
  split
  · rfl
  · rfl

/-- `AccW` is `A` modulo `2 ^ W`, at every width (R11). -/
theorem acc_toNat (s : State) (w : Width) : (s.acc w).toNat = s.a.toNat % 2 ^ w.bits :=
  BitVec.toNat_setWidth w.bits s.a

/-- A memory operand is read as W bits, in bytes of 8. -/
theorem reads_totalBits (e : EA) (w : Width) : 8 * (e.reads w).length = w.bits := by
  cases w with
  | w8 => rfl
  | w16 => rfl

/-- A memory operand is written as W bits, in bytes of 8. -/
theorem writes_totalBits (e : EA) (w : Width) : 8 * (e.writes w).length = w.bits := by
  cases w with
  | w8 => rfl
  | w16 => rfl

/-- Settles O31, clause by clause: W by `width_bits`, MSB by its definition, MASK as the all-ones value, the
accumulator value by `acc_toNat`, and the bytes of a memory operand by `reads_totalBits` and `writes_totalBits`. -/
theorem widthIsSixteenOnlyOnThe65816WithMClear : Obligations.WidthIsSixteenOnlyOnThe65816WithMClear := by
  intro s
  refine ⟨width_bits s, rfl, BitVec.toNat_allOnes, acc_toNat s s.width, fun m => ?_⟩
  exact ⟨reads_totalBits (ea s m) s.width, writes_totalBits (ea s m) s.width⟩

end Sys2Proof.Scope
end

section
/-! The flags v and c (R22, R24): which instruction writes each, with what value, and which instructions read it.

`exec` is first split, once for all 74 instructions, into its guard and its effect. The effect takes the width as an
argument, so that two states with the same width have effects that can be compared field by field. -/

open Sys2Proof Sys2Proof.Machine

namespace Sys2Proof.Flags

/-! ### The effect of an instruction -/

/-- AND, EOR, ORA: the result goes to `AccW`, and n and z follow it. -/
def accEffect (w : Width) (r : BitVec w.bits) (s : State) : State := (s.setAcc w r).flagsNZ r

/-- The shifts and rotates: the result goes back to the operand's place, then c, n and z (R190). -/
def shiftEffect (w : Width) (o : Operand) (res : BitVec w.bits × Bool) (s : State) : State :=
  ((writeOp w o res.1 s).setC res.2).flagsNZ res.1

/-- TRB and TSB: `v` goes to the operand's place, and z tests `m`, the operand as read (R220). -/
def testEffect (w : Width) (o : Operand) (m v : BitVec w.bits) (s : State) : State :=
  (writeOp w o v s).flagZTest (s.acc w) m

/-- BIT: z tests the operand; n and v take its top bits, but for a constant (R140). -/
def bitEffect (w : Width) (o : Operand) (m : BitVec w.bits) (s : State) : State :=
  if o.mode = .IMM then s.flagZTest (s.acc w) m else (s.flagsTopBits m).flagZTest (s.acc w) m

/-- What a mnemonic does to its operand at width `w`, before `PC` advances. -/
def operate (w : Width) (o : Operand) (s : State) : Mnemonic → State
  | .AND => accEffect w (s.acc w &&& readOp w o s) s
  | .EOR => accEffect w (s.acc w ^^^ readOp w o s) s
  | .ORA => accEffect w (s.acc w ||| readOp w o s) s
  | .BIT => bitEffect w o (readOp w o s) s
  | .ASL => shiftEffect w o (asl (readOp w o s)) s
  | .LSR => shiftEffect w o (lsr (readOp w o s)) s
  | .ROL => shiftEffect w o (rol (readOp w o s) s.flagC) s
  | .ROR => shiftEffect w o (ror (readOp w o s) s.flagC) s
  | .TRB => testEffect w o (readOp w o s) (readOp w o s &&& ~~~(s.acc w)) s
  | .TSB => testEffect w o (readOp w o s) (readOp w o s ||| s.acc w) s

/-- The whole effect of an instruction at width `w`. -/
def effect (w : Width) (i : Instr) (s : State) : State :=
  (operate w i.operand s i.mnemonic).advance (i.length w)

/-- The only instruction with a constant that is not AND, EOR or ORA is `BIT #const`. -/
theorem exec_BIT_of_imm (i : Instr) (s : State) (h : i.mnemonic = .BIT) (hm : i.operand.mode = .IMM) :
    exec i s = bitImmMeaning i s := by
  cases i <;> first | rfl | contradiction

/-- Every instruction is its guard over the addresses it touches, and its effect. -/
theorem exec_eq_checked (i : Instr) (s : State) :
    exec i s = checked i (Claims.touched i s) s (effect s.width i s) := by
  cases h : i.mnemonic with
  | AND => simp [exec_AND i s h, andMeaning, Claims.touched, effect, operate, accEffect, h]
  | EOR => simp [exec_EOR i s h, eorMeaning, Claims.touched, effect, operate, accEffect, h]
  | ORA => simp [exec_ORA i s h, oraMeaning, Claims.touched, effect, operate, accEffect, h]
  | BIT =>
    by_cases hm : i.operand.mode = .IMM
    · simp [exec_BIT_of_imm i s h hm, bitImmMeaning, Claims.touched, effect, operate, bitEffect, h, hm]
    · simp [exec_BIT_mem i s h hm, bitMemMeaning, Claims.touched, effect, operate, bitEffect, h, hm]
  | ASL => simp [exec_ASL i s h, aslMeaning, shiftStore, Claims.touched, effect, operate, shiftEffect, h]
  | LSR => simp [exec_LSR i s h, lsrMeaning, shiftStore, Claims.touched, effect, operate, shiftEffect, h]
  | ROL => simp [exec_ROL i s h, rolMeaning, shiftStore, Claims.touched, effect, operate, shiftEffect, h]
  | ROR => simp [exec_ROR i s h, rorMeaning, shiftStore, Claims.touched, effect, operate, shiftEffect, h]
  | TRB => simp [exec_TRB i s h, trbMeaning, testStore, Claims.touched, effect, operate, testEffect, h]
  | TSB => simp [exec_TSB i s h, tsbMeaning, testStore, Claims.touched, effect, operate, testEffect, h]

/-- An instruction completes exactly where nothing refuses it, with its effect. -/
theorem exec_eq_next (i : Instr) (s t : State) :
    exec i s = .next t ↔ Claims.Ready i s (Claims.touched i s) ∧ t = effect s.width i s := by
  rw [exec_eq_checked, checked_eq_next]
  simp only [Claims.Ready, and_assoc]

/-! ### v and c after each effect -/

theorem writeOp_p (w : Width) (o : Operand) (v : BitVec w.bits) (s : State) : (writeOp w o v s).p = s.p := by
  obtain ⟨-, -, -, -, -, -, -, -, -, -, hp⟩ := writeOp_frame w o v s
  exact hp

@[simp] theorem writeOp_flagV (w : Width) (o : Operand) (v : BitVec w.bits) (s : State) :
    (writeOp w o v s).flagV = s.flagV := congrArg (fun p => p.getLsbD 6) (writeOp_p w o v s)

@[simp] theorem writeOp_flagC (w : Width) (o : Operand) (v : BitVec w.bits) (s : State) :
    (writeOp w o v s).flagC = s.flagC := congrArg (fun p => p.getLsbD 0) (writeOp_p w o v s)

@[simp] theorem accEffect_flagV (w : Width) (r : BitVec w.bits) (s : State) : (accEffect w r s).flagV = s.flagV := by
  simp [accEffect, State.flagsNZ]

@[simp] theorem accEffect_flagC (w : Width) (r : BitVec w.bits) (s : State) : (accEffect w r s).flagC = s.flagC := by
  simp [accEffect, State.flagsNZ]

@[simp] theorem shiftEffect_flagV (w : Width) (o : Operand) (res : BitVec w.bits × Bool) (s : State) :
    (shiftEffect w o res s).flagV = s.flagV := by
  simp [shiftEffect, State.flagsNZ]

@[simp] theorem shiftEffect_flagC (w : Width) (o : Operand) (res : BitVec w.bits × Bool) (s : State) :
    (shiftEffect w o res s).flagC = res.2 := by
  simp [shiftEffect, State.flagsNZ]

@[simp] theorem testEffect_flagV (w : Width) (o : Operand) (m v : BitVec w.bits) (s : State) :
    (testEffect w o m v s).flagV = s.flagV := by
  simp [testEffect, State.flagZTest]

@[simp] theorem testEffect_flagC (w : Width) (o : Operand) (m v : BitVec w.bits) (s : State) :
    (testEffect w o m v s).flagC = s.flagC := by
  simp [testEffect, State.flagZTest]

@[simp] theorem bitEffect_flagV (w : Width) (o : Operand) (m : BitVec w.bits) (s : State) :
    (bitEffect w o m s).flagV = if o.mode = .IMM then s.flagV else m.getLsbD (w.msb - 1) := by
  unfold bitEffect
  split
  · simp [State.flagZTest]
  · simp [State.flagZTest, State.flagsTopBits, Nat.sub_sub]

@[simp] theorem bitEffect_flagC (w : Width) (o : Operand) (m : BitVec w.bits) (s : State) :
    (bitEffect w o m s).flagC = s.flagC := by
  unfold bitEffect
  split
  · simp [State.flagZTest]
  · simp [State.flagZTest, State.flagsTopBits]

/-- v after a mnemonic: a new value in BIT on memory alone (R22). -/
theorem operate_flagV (w : Width) (o : Operand) (s : State) (mn : Mnemonic) :
    (operate w o s mn).flagV =
      if mn = .BIT ∧ o.mode ≠ .IMM then (readOp w o s).getLsbD (w.msb - 1) else s.flagV := by
  cases mn with
  | BIT => by_cases hm : o.mode = .IMM <;> simp [operate, hm]
  | AND | EOR | ORA | ASL | LSR | ROL | ROR | TRB | TSB => simp [operate]

/-- c after a mnemonic: the bit shifted out of bit MSB or of bit 0, or the old c (R24). -/
theorem operate_flagC (w : Width) (o : Operand) (s : State) (mn : Mnemonic) :
    (operate w o s mn).flagC =
      if mn = .ASL ∨ mn = .ROL then (readOp w o s).getLsbD w.msb
      else if mn = .LSR ∨ mn = .ROR then (readOp w o s).getLsbD 0
      else s.flagC := by
  cases mn with
  | ASL | ROL => simp [operate, asl, rol, BitVec.msb_eq_getLsbD_last]
  | LSR | ROR => simp [operate, lsr, ror]
  | AND | EOR | ORA | BIT | TRB | TSB => simp [operate]

theorem effect_flagV (w : Width) (i : Instr) (s : State) :
    (effect w i s).flagV = if i.mnemonic = .BIT ∧ i.operand.mode ≠ .IMM
      then (readOp w i.operand s).getLsbD (w.msb - 1) else s.flagV :=
  operate_flagV w i.operand s i.mnemonic

theorem effect_flagC (w : Width) (i : Instr) (s : State) :
    (effect w i s).flagC = if i.mnemonic = .ASL ∨ i.mnemonic = .ROL then (readOp w i.operand s).getLsbD w.msb
      else if i.mnemonic = .LSR ∨ i.mnemonic = .ROR then (readOp w i.operand s).getLsbD 0
      else s.flagC :=
  operate_flagC w i.operand s i.mnemonic

/-! ### The bit a rotate shifts in -/

theorem bits_pos (w : Width) : 0 < w.bits := by
  cases w <;> decide

/-- ROL leaves the incoming bit in bit 0 (R193). -/
theorem rol_getLsbD_zero {n : Nat} (hn : 0 < n) (m : BitVec n) (cin : Bool) : (rol m cin).1.getLsbD 0 = cin := by
  simp [rol, hn]

/-- ROR leaves the incoming bit in the top bit (R194). -/
theorem ror_getLsbD_last {n : Nat} (hn : 0 < n) (m : BitVec n) (cin : Bool) :
    (ror m cin).1.getLsbD (n - 1) = cin := by
  have hout : m.getLsbD (1 + (n - 1)) = false := BitVec.getLsbD_of_ge m _ (by omega)
  simp [ror, hn, hout]

theorem far_ea1_ne_ea0 (a : Addr) : (EA.far a).ea1 ≠ (EA.far a).ea0 := by
  simp [EA.far]

theorem bank0_setWidth (off : Word) : (bank0 off).setWidth 16 = off := by
  apply BitVec.eq_of_getLsbD_eq
  intro j hj
  rw [bank0, BitVec.getLsbD_setWidth, BitVec.getLsbD_append]
  simp [hj]

theorem inBank0_ea1_ne_ea0 (off : Word) : (EA.inBank0 off).ea1 ≠ (EA.inBank0 off).ea0 := by
  intro heq
  have hoff : off + 1 = off := by
    simpa only [EA.inBank0, bank0_setWidth] using congrArg (BitVec.setWidth 16) heq
  exact absurd hoff (by simp)

/-- The two bytes of an operand in memory are never at one address (R82). -/
theorem ea1_ne_ea0 (s : State) (m : MemOperand) : (ea s m).ea1 ≠ (ea s m).ea0 := by
  unfold ea
  split
  · cases m with
    | dp | dpX | sr => exact inBank0_ea1_ne_ea0 _
    | abs | long | dpInd | dpIndL | absX | longX | absY | dpXInd | dpIndY | dpIndLY | srIndY => exact far_ea1_ne_ea0 _
  · exact inBank0_ea1_ne_ea0 _

/-- The register `A` alone decides `AccW`. -/
theorem acc_of_a_eq {s t : State} (h : t.a = s.a) (w : Width) : t.acc w = s.acc w := by
  simp only [State.acc, h]

/-- A state's memory alone decides what a memory operand reads as. -/
theorem readMem_of_mem_eq {s t : State} (h : t.mem = s.mem) (e : EA) (w : Width) : readMem t e w = readMem s e w := by
  cases w <;> simp only [readMem, State.readByte, h]

theorem acc_shiftEffect (w : Width) (res : BitVec w.bits × Bool) (s : State) :
    (shiftEffect w .acc res s).acc w = res.1 := calc
  (shiftEffect w .acc res s).acc w = (s.setAcc w res.1).acc w := acc_of_a_eq rfl w
  _ = res.1 := State.acc_setAcc s w res.1

theorem readMem_shiftEffect (w : Width) (m : MemOperand) (res : BitVec w.bits × Bool) (s : State)
    (hwf : s.mem.wf = true) : readMem (shiftEffect w (.mem m) res s) (ea s m) w = res.1 := calc
  readMem (shiftEffect w (.mem m) res s) (ea s m) w = readMem (writeMem s (ea s m) w res.1) (ea s m) w :=
    readMem_of_mem_eq rfl _ _
  _ = res.1 := readMem_writeMem_same hwf (ea1_ne_ea0 s m) w res.1

/-- A shift's result is found in the operand's place afterwards. -/
theorem operandAfter_shiftEffect (s : State) (o : Operand) (ho : o.mode ≠ .IMM) (hwf : s.mem.wf = true)
    (res : BitVec s.width.bits × Bool) (len : Nat) :
    Claims.operandAfter o s ((shiftEffect s.width o res s).advance len) = res.1 := by
  unfold Claims.operandAfter
  cases o with
  | acc => exact (acc_of_a_eq (State.advance_a _ len) _).trans (acc_shiftEffect s.width res s)
  | imm k => exact absurd rfl ho
  | mem m =>
    exact (readMem_of_mem_eq (State.advance_mem _ len) _ _).trans (readMem_shiftEffect s.width m res s hwf)

theorem mode_ne_imm_of_rotate (i : Instr) (h : i.mnemonic = .ROL ∨ i.mnemonic = .ROR) : i.operand.mode ≠ .IMM := by
  intro hm
  cases i <;> first | contradiction | simp [Instr.mnemonic] at h

theorem operandAfter_ROL (i : Instr) (s : State) (h : i.mnemonic = .ROL) (hwf : s.mem.wf = true) :
    (Claims.operandAfter i.operand s (effect s.width i s)).getLsbD 0 = s.flagC := by
  simp only [effect, operate, h]
  rw [operandAfter_shiftEffect s i.operand (mode_ne_imm_of_rotate i (.inl h)) hwf]
  exact rol_getLsbD_zero (bits_pos s.width) _ _

theorem operandAfter_ROR (i : Instr) (s : State) (h : i.mnemonic = .ROR) (hwf : s.mem.wf = true) :
    (Claims.operandAfter i.operand s (effect s.width i s)).getLsbD s.width.msb = s.flagC := by
  simp only [effect, operate, h]
  rw [operandAfter_shiftEffect s i.operand (mode_ne_imm_of_rotate i (.inr h)) hwf]
  exact ror_getLsbD_last (bits_pos s.width) _ _

/-! ### States that differ in one bit of `P` at most -/

/-- The state with bit `k` of `P` set to `b`: `setN`, `setV`, `setZ`, `setC` are the cases 7, 6, 1, 0, by `rfl`. -/
def setBit (s : State) (k : Nat) (b : Bool) : State := { s with p := putBit s.p k b }

/-- The two states are equal but for bit `k` of `P`. -/
def SameBut (k : Nat) (s s' : State) : Prop := ∀ c : Bool, setBit s' k c = setBit s k c

theorem putBit_putBit_same (p : Byte) {k : Nat} (hk : k < 8) (b c : Bool) :
    putBit (putBit p k b) k c = putBit p k c := by
  apply BitVec.eq_of_getLsbD_eq
  intro j hj
  simp only [putBit_getLsbD _ _ _ _ hk]
  split <;> rfl

theorem putBit_comm (p : Byte) {k j : Nat} (hk : k < 8) (hj : j < 8) (hne : j ≠ k) (b c : Bool) :
    putBit (putBit p k b) j c = putBit (putBit p j c) k b := by
  apply BitVec.eq_of_getLsbD_eq
  intro l hl
  simp only [putBit_getLsbD _ _ _ _ hk, putBit_getLsbD _ _ _ _ hj]
  by_cases hlj : l = j
  · simp [hlj, hne]
  · simp [hlj]

theorem setBit_setBit_same (s : State) {k : Nat} (hk : k < 8) (b c : Bool) :
    setBit (setBit s k b) k c = setBit s k c := by
  simp only [setBit, putBit_putBit_same s.p hk]

theorem setBit_comm (s : State) {k j : Nat} (hk : k < 8) (hj : j < 8) (hne : j ≠ k) (b c : Bool) :
    setBit (setBit s k b) j c = setBit (setBit s j c) k b := by
  simp only [setBit, putBit_comm s.p hk hj hne]

theorem sameBut_setBit (s : State) {k : Nat} (hk : k < 8) (b : Bool) : SameBut k s (setBit s k b) :=
  fun c => setBit_setBit_same s hk b c

/-- What does not depend on bit `k` has one value in both states. -/
theorem SameBut.eq_of {k : Nat} {s s' : State} (h : SameBut k s s') {α : Sort*} (f : State → α)
    (hf : ∀ u c, f (setBit u k c) = f u) : f s' = f s := calc
  f s' = f (setBit s' k true) := (hf s' true).symm
  _ = f (setBit s k true) := congrArg f (h true)
  _ = f s := hf s true

/-- An update that passes over bit `k` leaves the two states equal but for it. -/
theorem SameBut.map {k : Nat} {s s' : State} (h : SameBut k s s') (f : State → State)
    (hf : ∀ u c, f (setBit u k c) = setBit (f u) k c) : SameBut k (f s) (f s') := fun c => calc
  setBit (f s') k c = f (setBit s' k c) := (hf s' c).symm
  _ = f (setBit s k c) := congrArg f (h c)
  _ = setBit (f s) k c := hf s c

section
variable {k : Nat} {s s' : State} (h : SameBut k s s')
include h

theorem SameBut.setBit_congr (hk : k < 8) {j : Nat} (hj : j < 8) (b : Bool) :
    SameBut k (setBit s j b) (setBit s' j b) := by
  by_cases hjk : j = k
  · subst hjk
    intro c
    rw [setBit_setBit_same s' hk, setBit_setBit_same s hk, h c]
  · exact h.map (fun u => setBit u j b) fun u c => setBit_comm u hk hj hjk c b

theorem SameBut.setAcc_congr (w : Width) (v : BitVec w.bits) : SameBut k (s.setAcc w v) (s'.setAcc w v) :=
  h.map (fun u => u.setAcc w v) fun _ _ => by cases w <;> rfl

theorem SameBut.advance_congr (len : Nat) : SameBut k (s.advance len) (s'.advance len) :=
  h.map (fun u => u.advance len) fun _ _ => rfl

theorem SameBut.writeOp_congr (w : Width) (o : Operand) (v : BitVec w.bits) :
    SameBut k (writeOp w o v s) (writeOp w o v s') :=
  h.map (writeOp w o v) fun _ _ => by cases o <;> cases w <;> rfl

theorem SameBut.flagsNZ_congr (hk : k < 8) {n : Nat} (r : BitVec n) : SameBut k (s.flagsNZ r) (s'.flagsNZ r) :=
  (h.setBit_congr hk (by decide : 7 < 8) _).setBit_congr hk (by decide : 1 < 8) _

theorem SameBut.flagZTest_congr (hk : k < 8) {n : Nat} (acc m : BitVec n) :
    SameBut k (s.flagZTest acc m) (s'.flagZTest acc m) :=
  h.setBit_congr hk (by decide : 1 < 8) _

theorem SameBut.flagsTopBits_congr (hk : k < 8) {n : Nat} (m : BitVec n) :
    SameBut k (s.flagsTopBits m) (s'.flagsTopBits m) :=
  (h.setBit_congr hk (by decide : 7 < 8) _).setBit_congr hk (by decide : 6 < 8) _

theorem SameBut.acc_eq (w : Width) : s'.acc w = s.acc w := h.eq_of (fun u => u.acc w) fun _ _ => rfl

theorem SameBut.readOp_eq (w : Width) (o : Operand) : readOp w o s' = readOp w o s :=
  h.eq_of (readOp w o) fun _ _ => by cases o <;> cases w <;> rfl

/-- W depends on `P` through m, its bit 5, alone (R4). -/
theorem SameBut.width_eq (hk : k < 8) (hm : k ≠ 5) : s'.width = s.width :=
  h.eq_of State.width fun u c => by
    have hflag : (setBit u k c).flagM = u.flagM := (putBit_getLsbD u.p k c 5 hk).trans (if_neg (Ne.symm hm))
    unfold State.width
    rw [hflag]
    rfl

theorem SameBut.flagC_eq (hk : k < 8) (hc : k ≠ 0) : s'.flagC = s.flagC :=
  h.eq_of State.flagC fun u c => (putBit_getLsbD u.p k c 0 hk).trans (if_neg (Ne.symm hc))

theorem SameBut.readAddrs_eq (w : Width) (o : Operand) : readAddrs w o s' = readAddrs w o s :=
  h.eq_of (readAddrs w o) fun _ _ => by cases o <;> rfl

theorem SameBut.modifyAddrs_eq (w : Width) (o : Operand) : modifyAddrs w o s' = modifyAddrs w o s :=
  h.eq_of (modifyAddrs w o) fun _ _ => by cases o <;> rfl

theorem SameBut.touched_eq (hk : k < 8) (hm : k ≠ 5) (i : Instr) : Claims.touched i s' = Claims.touched i s := by
  unfold Claims.touched
  rw [h.width_eq hk hm, h.readAddrs_eq, h.modifyAddrs_eq]

theorem SameBut.ready (hk : k < 8) (hm : k ≠ 5) {i : Instr} (hr : Claims.Ready i s (Claims.touched i s)) :
    Claims.Ready i s' (Claims.touched i s') := by
  rw [h.touched_eq hk hm]
  exact (h.eq_of (fun u => Claims.Ready i u (Claims.touched i s)) fun _ _ => rfl).mpr hr

/-! ### An instruction reads no bit of `P` but m, and c in a rotate -/

theorem SameBut.accEffect_congr (hk : k < 8) (w : Width) (r : BitVec w.bits) :
    SameBut k (accEffect w r s) (accEffect w r s') :=
  (h.setAcc_congr w r).flagsNZ_congr hk r

theorem SameBut.shiftEffect_congr (hk : k < 8) (w : Width) (o : Operand) (res : BitVec w.bits × Bool) :
    SameBut k (shiftEffect w o res s) (shiftEffect w o res s') :=
  ((h.writeOp_congr w o res.1).setBit_congr hk (by decide : 0 < 8) res.2).flagsNZ_congr hk res.1

theorem SameBut.testEffect_congr (hk : k < 8) (w : Width) (o : Operand) (m v : BitVec w.bits) :
    SameBut k (testEffect w o m v s) (testEffect w o m v s') := by
  unfold testEffect
  rw [h.acc_eq w]
  exact (h.writeOp_congr w o v).flagZTest_congr hk _ m

theorem SameBut.bitEffect_congr (hk : k < 8) (w : Width) (o : Operand) (m : BitVec w.bits) :
    SameBut k (bitEffect w o m s) (bitEffect w o m s') := by
  unfold bitEffect
  rw [h.acc_eq w]
  split
  · exact h.flagZTest_congr hk _ m
  · exact (h.flagsTopBits_congr hk m).flagZTest_congr hk _ m

/-- The effects on two states equal but for bit `k` are equal but for it, unless `k` is c and the mnemonic rotates. -/
theorem SameBut.operate_congr (hk : k < 8) (w : Width) (o : Operand) {mn : Mnemonic}
    (hc : k = 0 → mn ∉ [Mnemonic.ROL, .ROR]) : SameBut k (operate w o s mn) (operate w o s' mn) := by
  cases mn <;> simp only [operate, h.acc_eq w, h.readOp_eq w o]
  case AND | EOR | ORA => exact h.accEffect_congr hk w _
  case BIT => exact h.bitEffect_congr hk w o _
  case ASL | LSR => exact h.shiftEffect_congr hk w o _
  case ROL | ROR =>
    have hk0 : k ≠ 0 := fun h0 => hc h0 (by simp)
    rw [h.flagC_eq hk hk0]
    exact h.shiftEffect_congr hk w o _
  case TRB | TSB => exact h.testEffect_congr hk w o _ _

/-- An instruction that completes also completes after a change of a bit it does not read, and the two end states
differ in that bit at most. -/
theorem SameBut.exec (hk : k < 8) (hm : k ≠ 5) {i : Instr} (hc : k = 0 → i.mnemonic ∉ [Mnemonic.ROL, .ROR])
    {t : State} (ht : exec i s = .next t) : ∃ t', exec i s' = .next t' ∧ SameBut k t t' := by
  obtain ⟨hr, rfl⟩ := (exec_eq_next i s t).1 ht
  refine ⟨effect s.width i s', (exec_eq_next i s' _).2 ⟨h.ready hk hm hr, ?_⟩, ?_⟩
  · rw [h.width_eq hk hm]
  · exact (h.operate_congr hk s.width i.operand hc).advance_congr _

end

/-! ### The statements -/

/-- Settles O28: v after the effect by `effect_flagV`, and `SameBut.exec` at bit 6 for "none reads it". -/
theorem vIsWrittenByBitOnMemoryOnly : Obligations.VIsWrittenByBitOnMemoryOnly := by
  intro i s t ht
  obtain ⟨-, rfl⟩ := (exec_eq_next i s t).1 ht
  refine ⟨fun hbit => ?_, fun hnot => ?_, fun b => ?_⟩
  · rw [effect_flagV, if_pos hbit]
  · rw [effect_flagV, if_neg hnot]
  · exact (sameBut_setBit s (by decide : 6 < 8) b).exec (by decide) (by decide) (by simp) ht

/-- Settles O29: c after the effect by `effect_flagC`, the bit shifted in by `operandAfter_ROL` and `operandAfter_ROR`,
and `SameBut.exec` at bit 0 for the instructions that do not read c. -/
theorem cIsWrittenByShiftsAndReadByRotatesOnly : Obligations.CIsWrittenByShiftsAndReadByRotatesOnly := by
  intro i s t ht
  obtain ⟨-, rfl⟩ := (exec_eq_next i s t).1 ht
  refine ⟨fun hleft => ?_, fun hright => ?_, fun hnot => ?_, operandAfter_ROL i s, operandAfter_ROR i s,
    fun hnot b => ?_⟩
  · rw [effect_flagC, if_pos hleft]
  · have hleft : ¬(i.mnemonic = .ASL ∨ i.mnemonic = .ROL) := by
      rcases hright with h | h <;> simp [h]
    rw [effect_flagC, if_neg hleft, if_pos hright]
  · simp only [List.mem_cons, List.not_mem_nil, or_false, not_or] at hnot
    obtain ⟨hasl, hlsr, hrol, hror⟩ := hnot
    rw [effect_flagC, if_neg (not_or.2 ⟨hasl, hrol⟩), if_neg (not_or.2 ⟨hlsr, hror⟩)]
  · exact (sameBut_setBit s (by decide : 0 < 8) b).exec (by decide) (by decide) (fun _ => hnot) ht

end Sys2Proof.Flags
end

section
/-! The encoding (R60, R62, R63, R67): which row of the opcode map an instruction is, what the decoder reads of the
bytes, and how many bytes an instruction takes. -/

open Sys2Proof

namespace Sys2Proof.Encoding

/-! ### The rows of the opcode map -/

/-- The opcode byte, the mnemonic and the mode of an instruction are a row of the opcode map (R67). -/
theorem row_mem_opcodeRows (i : Instr) : (i.opcode, i.mnemonic, i.operand.mode) ∈ Claims.opcodeRows := by
  cases i <;> exact of_decide_eq_true rfl

theorem opcodeRows_opcodes_nodup : (Claims.opcodeRows.map (fun row => row.1)).Nodup := by
  decide

/-- No two rows share an opcode byte, so that byte fixes the mnemonic and the mode (R60). -/
theorem mnemonic_mode_eq_of_opcode_eq {i j : Instr} (h : i.opcode = j.opcode) :
    i.mnemonic = j.mnemonic ∧ i.operand.mode = j.operand.mode := by
  have hrow : (i.opcode, i.mnemonic, i.operand.mode) = (j.opcode, j.mnemonic, j.operand.mode) :=
    List.inj_on_of_nodup_map opcodeRows_opcodes_nodup (row_mem_opcodeRows i) (row_mem_opcodeRows j) h
  simpa [h] using hrow

/-- The `#const` rows are those of AND, BIT, EOR and ORA (R63). -/
theorem mnemonic_mem_of_mode_imm (i : Instr) (h : i.operand.mode = .IMM) :
    i.mnemonic ∈ [Mnemonic.AND, .BIT, .EOR, .ORA] := by
  have himm : ∀ row ∈ Claims.opcodeRows, row.2.2 = .IMM → row.2.1 ∈ [Mnemonic.AND, .BIT, .EOR, .ORA] := by decide
  exact himm _ (row_mem_opcodeRows i) h

/-! ### Operand bytes taken apart again -/

theorem byteOf_zero_self (b : Byte) : byteOf 0 b = b := by
  simp [byteOf]

/-- The lowest byte of a value with a byte appended below is that byte. -/
theorem byteOf_zero_append {n : Nat} (hi : BitVec n) (lo : Byte) : byteOf 0 (hi ++ lo) = lo := by
  apply BitVec.eq_of_getLsbD_eq
  intro j hj
  rw [byteOf_getLsbD, BitVec.getLsbD_append]
  simp [hj]

/-- The bytes above it are those of the rest. -/
theorem byteOf_succ_append {n : Nat} (k : Nat) (hi : BitVec n) (lo : Byte) :
    byteOf (k + 1) (hi ++ lo) = byteOf k hi := by
  apply BitVec.eq_of_getLsbD_eq
  intro j hj
  have hge : ¬8 * (k + 1) + j < 8 := by omega
  have hsub : 8 * (k + 1) + j - 8 = 8 * k + j := by omega
  rw [byteOf_getLsbD, byteOf_getLsbD, BitVec.getLsbD_append, if_neg hge, hsub]

theorem byteOf_zero_assemble16 (b1 b2 : Byte) : byteOf 0 (assemble16 b1 b2) = b1 := byteOf_zero_append b2 b1

theorem byteOf_one_assemble16 (b1 b2 : Byte) : byteOf 1 (assemble16 b1 b2) = b2 := calc
  byteOf 1 (assemble16 b1 b2) = byteOf 0 b2 := byteOf_succ_append 0 b2 b1
  _ = b2 := byteOf_zero_self b2

theorem byteOf_zero_assemble24 (b1 b2 b3 : Byte) : byteOf 0 (assemble24 b1 b2 b3) = b1 :=
  byteOf_zero_append (b3 ++ b2) b1

theorem byteOf_one_assemble24 (b1 b2 b3 : Byte) : byteOf 1 (assemble24 b1 b2 b3) = b2 := calc
  byteOf 1 (assemble24 b1 b2 b3) = byteOf 0 (b3 ++ b2) := byteOf_succ_append 0 (b3 ++ b2) b1
  _ = b2 := byteOf_zero_append b3 b2

theorem byteOf_two_assemble24 (b1 b2 b3 : Byte) : byteOf 2 (assemble24 b1 b2 b3) = b3 := calc
  byteOf 2 (assemble24 b1 b2 b3) = byteOf 1 (b3 ++ b2) := byteOf_succ_append 1 (b3 ++ b2) b1
  _ = b3 := byteOf_one_assemble16 b2 b3

theorem byteOf_zero_assembleConst_w8 (b1 b2 : Byte) : byteOf 0 (assembleConst .w8 b1 b2) = b1 := by
  apply BitVec.eq_of_toNat_eq
  have hlt : b1.toNat < 256 := b1.isLt
  simp [assembleConst, byteOf, hlt]

/-- The operand is put together from those operand bytes, as R84 says of its mode. -/
def Assembled (w : Width) (b1 b2 b3 : Byte) : Operand → Prop
  | .acc => True
  | .imm k => k = assembleConst w b1 b2
  | .mem (.abs a) | .mem (.absX a) | .mem (.absY a) => a = assemble16 b1 b2
  | .mem (.long a) | .mem (.longX a) => a = assemble24 b1 b2 b3
  | .mem (.dp b) | .mem (.dpInd b) | .mem (.dpIndL b) | .mem (.dpX b) | .mem (.dpXInd b) | .mem (.dpIndY b)
  | .mem (.dpIndLY b) | .mem (.sr b) | .mem (.srIndY b) => b = b1

theorem byteCount_le_three (w : Width) (o : Operand) : o.byteCount w ≤ 3 := by
  cases o with
  | acc => exact Nat.zero_le 3
  | imm k => cases w <;> simp [Operand.byteCount]
  | mem m => cases m <;> simp [Operand.byteCount]

/-- An operand's bytes are the first of the operand bytes it was put together from, as many as its mode takes. -/
theorem Assembled.bytes_eq {w : Width} {b1 b2 b3 : Byte} {o : Operand} (h : Assembled w b1 b2 b3 o) :
    o.bytes w = [b1, b2, b3].take (o.byteCount w) := by
  cases o with
  | acc => rfl
  | imm k =>
    obtain rfl : k = assembleConst w b1 b2 := h
    cases w with
    | w8 => simp [Operand.bytes, Operand.byteCount, byteOf_zero_assembleConst_w8]
    | w16 => simp [Operand.bytes, Operand.byteCount, assembleConst, byteOf_zero_assemble16, byteOf_one_assemble16]
  | mem m =>
    cases m with
    | abs a | absX a | absY a =>
      obtain rfl : a = assemble16 b1 b2 := h
      simp [Operand.bytes, Operand.byteCount, byteOf_zero_assemble16, byteOf_one_assemble16]
    | long a | longX a =>
      obtain rfl : a = assemble24 b1 b2 b3 := h
      simp [Operand.bytes, Operand.byteCount, byteOf_zero_assemble24, byteOf_one_assemble24, byteOf_two_assemble24]
    | dp b | dpInd b | dpIndL b | dpX b | dpXInd b | dpIndY b | dpIndLY b | sr b | srIndY b =>
      obtain rfl : b = b1 := h
      rfl

/-! ### What the decoder answers -/

/-- The opcode map gives an instruction of that opcode byte, its operand put together from the operand bytes (R67). -/
theorem instrOf_eq_some {w : Width} {op b1 b2 b3 : Byte} {i : Instr} (h : instrOf w op b1 b2 b3 = some i) :
    i.opcode = op ∧ Assembled w b1 b2 b3 i.operand := by
  unfold instrOf at h
  split at h
  -- the last arm of the map: an opcode byte it does not list
  case h_75 => cases h
  all_goals
    next hop =>
      cases h
      exact ⟨BitVec.eq_of_toNat_eq hop.symm, by trivial⟩

/-- What must hold when the decoder answers an instruction. -/
theorem decode_cons_eq_ok {w : Width} {op : Byte} {bs rest : List Byte} {i : Instr}
    (h : decode w (op :: bs) = .ok (i, rest)) :
    instrOf w op (bs.getD 0 0) (bs.getD 1 0) (bs.getD 2 0) = some i ∧ i.operand.byteCount w ≤ bs.length
      ∧ rest = bs.drop (i.operand.byteCount w) := by
  simp only [decode] at h
  cases hsome : instrOf w op (bs.getD 0 0) (bs.getD 1 0) (bs.getD 2 0) with
  | none => simp only [hsome, reduceCtorEq] at h
  | some j =>
    by_cases hlen : bs.length < j.operand.byteCount w
    · simp only [hsome, hlen, if_true, reduceCtorEq] at h
    · simp only [hsome, hlen, if_false, Except.ok.injEq, Prod.mk.injEq] at h
      obtain ⟨rfl, rfl⟩ := h
      exact ⟨rfl, Nat.le_of_not_lt hlen, rfl⟩

/-- The operand bytes as the decoder reads them, 0 past the end of the list, begin as the list does. -/
theorem take_getD_eq_take {bs : List Byte} {n : Nat} (hn : n ≤ 3) (hlen : n ≤ bs.length) :
    [bs.getD 0 0, bs.getD 1 0, bs.getD 2 0].take n = bs.take n := by
  apply List.ext_getElem
  · simp [hn, hlen]
  · intro k hk _
    obtain ⟨hkn, hk3⟩ : k < n ∧ k < 3 := by simpa using hk
    have hkbs : k < bs.length := by omega
    interval_cases k <;> simp [hkbs]

/-- The decoder reads an instruction of the first byte, whose operand bytes are the next bytes of the list (R60, R62). -/
theorem decode_cons_reads {w : Width} {op : Byte} {bs rest : List Byte} {i : Instr}
    (h : decode w (op :: bs) = .ok (i, rest)) :
    i.opcode = op ∧ i.operand.bytes w = bs.take (i.operand.byteCount w)
      ∧ rest = bs.drop (i.operand.byteCount w) := by
  obtain ⟨hsome, hlen, hrest⟩ := decode_cons_eq_ok h
  obtain ⟨hop, hasm⟩ := instrOf_eq_some hsome
  exact ⟨hop, hasm.bytes_eq.trans (take_getD_eq_take (byteCount_le_three w i.operand) hlen), hrest⟩

/-! ### The statements -/

/-- Settles O3: both instructions have the first byte as their opcode by `decode_cons_reads`, which is one row of the
map by `mnemonic_mode_eq_of_opcode_eq`. -/
theorem theOpcodeByteAloneSelectsMnemonicAndMode : Obligations.TheOpcodeByteAloneSelectsMnemonicAndMode := by
  intro w w' op bs bs' i j rest rest' hi hj
  obtain ⟨hiop, hbytes, hrest⟩ := decode_cons_reads hi
  obtain ⟨hjop, -, -⟩ := decode_cons_reads hj
  obtain ⟨hmnemonic, hmode⟩ := mnemonic_mode_eq_of_opcode_eq (hiop.trans hjop.symm)
  refine ⟨hmnemonic, hmode, i.operand.bytes w, ?_, ?_, ?_⟩
  · calc (i.operand.bytes w).length ≤ i.operand.byteCount w := by rw [hbytes]; exact List.length_take_le _ _
      _ ≤ 3 := byteCount_le_three w i.operand
  · rw [hbytes, hrest, List.take_append_drop]
  · rw [encode, hiop]

/-- Settles O4: the length mode by mode, and the `#const` rows by `mnemonic_mem_of_mode_imm`. -/
theorem lengthDependsOnWOnlyForImmediates : Obligations.LengthDependsOnWOnlyForImmediates := by
  intro i w
  refine ⟨?_, mnemonic_mem_of_mode_imm i⟩
  unfold Instr.length
  cases i.operand with
  | acc => rfl
  | imm k => cases w <;> rfl
  | mem m => cases m <;> rfl

end Sys2Proof.Encoding
end

section
/-! The shifts and rotates as operations (R191 to R194): their bits, their arithmetic laws, and what the instructions
that run them leave in n, z and c.

The shifts are the rotates with a clear carry, and ROR is the inverse of ROL, so the one law that is computed is ROL's,
which is the law of a bit concatenated on the right. -/

open Sys2Proof Sys2Proof.Machine Sys2Proof.Flags

namespace Sys2Proof.Shifts

/-! ### Powers of two at the two widths, and a carry as a number -/

theorem two_pow_bits (w : Width) : 2 ^ w.bits = 2 * 2 ^ w.msb := by
  cases w <;> rfl

theorem two_pow_msb (w : Width) : 2 ^ w.msb = 2 * 2 ^ (w.msb - 1) := by
  cases w <;> rfl

theorem bool_eq_of_toNat_eq : ∀ {b c : Bool}, b.toNat = c.toNat → b = c := by
  decide

/-! ### The shifts are rotates -/

theorem asl_eq_rol {n : Nat} (m : BitVec n) : asl m = rol m false := by
  simp [asl, rol]

theorem lsr_eq_ror {n : Nat} (m : BitVec n) : lsr m = ror m false := by
  simp [lsr, ror]

section
variable {n : Nat} (hn : 0 < n) (m : BitVec n) (cin : Bool)

/-! ### Bits -/

/-- The bit that ROL shifts out (R193). -/
theorem rol_snd : (rol m cin).2 = m.getLsbD (n - 1) := BitVec.msb_eq_getLsbD_last m

/-- The bit that ROR shifts out (R194). -/
theorem ror_snd : (ror m cin).2 = m.getLsbD 0 := rfl

/-- ROL's result is the operand with the carry concatenated on the right, cut to its width (R193). -/
theorem rol_fst_eq_shiftConcat : (rol m cin).1 = m.shiftConcat cin := by
  apply BitVec.eq_of_getLsbD_eq
  intro j hj
  by_cases h0 : j = 0
  · rw [h0] at hj ⊢
    rw [rol_getLsbD_zero hj, BitVec.getLsbD_shiftConcat]
    simp [hj]
  · rw [BitVec.getLsbD_shiftConcat]
    simp [rol, hj, h0, BitVec.getLsbD_ofBool, BitVec.getLsbD_eq_getElem (by omega : j - 1 < n)]

/-- The result of ROL, bit by bit (R193). -/
theorem rol_getLsbD {j : Nat} (hj : j < n) :
    (rol m cin).1.getLsbD j = if j = 0 then cin else m.getLsbD (j - 1) := by
  rw [rol_fst_eq_shiftConcat, BitVec.getLsbD_shiftConcat]
  simp [hj]

include hn

/-- The result of ROR, bit by bit (R194). -/
theorem ror_getLsbD {j : Nat} (hj : j < n) :
    (ror m cin).1.getLsbD j = if j = n - 1 then cin else m.getLsbD (j + 1) := by
  by_cases hlast : j = n - 1
  · rw [if_pos hlast, hlast, ror_getLsbD_last hn]
  · have hbelow : j < n - 1 := by omega
    simp [ror, hlast, hbelow, Nat.add_comm 1 j]

/-- ROL undoes ROR: both rotate the operand and the carry together (R190). -/
theorem rol_ror : rol (ror m cin).1 (ror m cin).2 = (m, cin) := by
  apply Prod.ext
  · apply BitVec.eq_of_getLsbD_eq
    intro j hj
    rw [rol_getLsbD _ _ hj]
    by_cases h0 : j = 0
    · rw [if_pos h0, ror_snd, h0]
    · have hsucc : j - 1 + 1 = j := by omega
      rw [if_neg h0, ror_getLsbD hn m cin (by omega), if_neg (by omega), hsucc]
  · exact (rol_snd _ _).trans (ror_getLsbD_last hn m cin)

/-! ### Arithmetic laws -/

/-- ROL doubles, exactly in `n + 1` bits (R193). -/
theorem rol_law : (rol m cin).2.toNat * 2 ^ n + (rol m cin).1.toNat = 2 * m.toNat + cin.toNat := by
  have hlt := m.isLt
  have hcin := cin.toNat_le
  have hpow := Nat.two_pow_pred_mul_two hn
  have hout : (rol m cin).2 = decide (2 ^ (n - 1) ≤ m.toNat) := BitVec.msb_eq_decide m
  rw [rol_fst_eq_shiftConcat, BitVec.toNat_shiftConcat, Nat.shiftLeft_eq, hout]
  by_cases hge : 2 ^ (n - 1) ≤ m.toNat
  · rw [Nat.mod_eq_sub_mod (by omega), Nat.mod_eq_of_lt (by omega)]
    simp only [hge, decide_true, Bool.toNat_true]
    omega
  · rw [Nat.mod_eq_of_lt (by omega)]
    simp only [hge, decide_false, Bool.toNat_false]
    omega

/-- ROL's law has one solution. -/
theorem rol_unique {v : Nat} {c : Bool} (hv : v < 2 ^ n)
    (h : c.toNat * 2 ^ n + v = 2 * m.toNat + cin.toNat) :
    (rol m cin).1.toNat = v ∧ (rol m cin).2 = c := by
  have hr := (rol m cin).1.isLt
  have heq : (rol m cin).1.toNat + (rol m cin).2.toNat * 2 ^ n = v + c.toNat * 2 ^ n := by
    rw [Nat.add_comm, rol_law hn, ← h, Nat.add_comm]
  have hout : (rol m cin).2.toNat = c.toNat := by
    have hdiv := congrArg (· / 2 ^ n) heq
    simpa only [Nat.add_mul_div_right _ _ (Nat.two_pow_pos n), Nat.div_eq_of_lt hr, Nat.div_eq_of_lt hv,
      Nat.zero_add] using hdiv
  rw [hout] at heq
  exact ⟨Nat.add_right_cancel heq, bool_eq_of_toNat_eq hout⟩

/-- ROR halves, the carry being bit `n` of what is halved (R194): ROL's law, read at ROR's result. -/
theorem ror_law : m.toNat + cin.toNat * 2 ^ n = 2 * (ror m cin).1.toNat + (ror m cin).2.toNat := by
  have hlaw := rol_law hn (ror m cin).1 (ror m cin).2
  rw [rol_ror hn m cin] at hlaw
  exact (Nat.add_comm _ _).trans hlaw

/-- ROR's law has one solution. -/
theorem ror_unique {v : Nat} {c : Bool} (h : m.toNat + cin.toNat * 2 ^ n = 2 * v + c.toNat) :
    (ror m cin).1.toNat = v ∧ (ror m cin).2 = c := by
  have heq := (ror_law hn m cin).symm.trans h
  have hout := (ror m cin).2.toNat_le
  have hc := c.toNat_le
  exact ⟨by omega, bool_eq_of_toNat_eq (by omega)⟩

/-- A doubling with nothing shifted in is even. -/
theorem rol_false_even : (rol m false).1.toNat % 2 = 0 := by
  have hbit := rol_getLsbD_zero hn m false
  rwa [BitVec.getLsbD, Nat.testBit_zero, decide_eq_false_iff_not, Nat.mod_two_not_eq_one] at hbit

end

/-! ### What the instructions leave in the flags -/

/-- c, n and z after an instruction of the family, from its result and the bit it shifts out (R190). -/
theorem shiftStore_flags {i : Instr} {s t : State} {res : BitVec s.width.bits × Bool}
    (h : shiftStore i s res = .next t) :
    t.flagC = res.2 ∧ t.flagN = res.1.getLsbD s.width.msb ∧ (t.flagZ = true ↔ res.1 = 0) := by
  obtain ⟨-, -, -, rfl⟩ := (shiftStore_next i s t res).1 h
  obtain ⟨hn, hz, -, hc, -⟩ := State.flagsNZ_flags ((writeOp s.width i.operand res.1 s).setC res.2) _ res.1
  simp only [State.advance_flagC, State.advance_flagN, State.advance_flagZ, hn, hz, hc]
  exact ⟨State.setC_flagC _ _, BitVec.msb_eq_getLsbD_last _, beq_iff_eq⟩

theorem setBit_flagC_self (s : State) : setBit s 0 s.flagC = s := by
  have hp : putBit s.p 0 s.flagC = s.p := by
    apply BitVec.eq_of_getLsbD_eq
    intro j hj
    rw [putBit_getLsbD _ _ _ _ (by decide)]
    split
    · next h0 => rw [h0]; rfl
    · rfl
  simp only [setBit, hp]

/-- Two states equal but for bit 0 of `P`, which is c, are equal when c is. -/
theorem eq_of_sameBut_flagC {s s' : State} (h : SameBut 0 s s') (hc : s'.flagC = s.flagC) : s' = s := calc
  s' = setBit s' 0 s'.flagC := (setBit_flagC_self s').symm
  _ = setBit s 0 s.flagC := hc ▸ h s'.flagC
  _ = s := setBit_flagC_self s

/-- The shifts do not read c, and they write it: the state they end in does not depend on it (R191, R192). -/
theorem exec_setC_of_shift {i : Instr} {s t : State} (hi : i.mnemonic = .ASL ∨ i.mnemonic = .LSR)
    (ht : exec i s = .next t) (c : Bool) : exec i (s.setC c) = .next t := by
  have hs : SameBut 0 s (s.setC c) := sameBut_setBit s (by decide) c
  have hnot : i.mnemonic ∉ [Mnemonic.ROL, .ROR] := by
    rcases hi with h | h <;> simp [h]
  obtain ⟨t', ht', hsame⟩ := hs.exec (by decide) (by decide) (fun _ => hnot) ht
  have hc : t'.flagC = t.flagC := by
    obtain ⟨-, rfl⟩ := (exec_eq_next i s t).1 ht
    obtain ⟨-, rfl⟩ := (exec_eq_next i (s.setC c) t').1 ht'
    rw [hs.width_eq (by decide) (by decide), effect_flagC, effect_flagC, hs.readOp_eq]
    rcases hi with h | h <;> simp [h]
  rw [ht', eq_of_sameBut_flagC hsame hc]

/-! ### The statements -/

/-- Settles O22: ASL is ROL with nothing shifted in, so its bits, law and corner cases are ROL's. -/
theorem aslIsAnUnsignedDoubling : Obligations.AslIsAnUnsignedDoubling := by
  intro w m r cout
  have hw := bits_pos w
  have hbits := two_pow_bits w
  have hmsb := two_pow_msb w
  have hrol : asl m = rol m false := asl_eq_rol m
  simp only [r, cout, hrol]
  refine ⟨fun j hj => rol_getLsbD m false hj, rol_snd m false, rol_law hw m false, rol_false_even hw m,
    fun hm => rol_unique hw m false (by simp) (by simp [hm]),
    fun hm => rol_unique hw m false (by simp) (by simp [hm]; omega),
    fun hm => rol_unique hw m false (by omega) (by simp [hm]; omega), ?_⟩
  intro i s t c hi ht
  obtain ⟨hc, hn, hz⟩ := shiftStore_flags ((exec_ASL i s hi).symm.trans ht)
  exact ⟨hc, hn.trans, hz, exec_setC_of_shift (.inl hi) ht c⟩

/-- Settles O23: LSR is ROR with nothing shifted in, and what is shifted in is n. -/
theorem lsrIsAnUnsignedHalving : Obligations.LsrIsAnUnsignedHalving := by
  intro w m r cout
  have hw := bits_pos w
  have hbits := two_pow_bits w
  have hror : lsr m = ror m false := lsr_eq_ror m
  simp only [r, cout, hror]
  refine ⟨fun j hj => ror_getLsbD hw m false hj, ror_snd m false, ?_,
    fun hm => ror_unique hw m false (by simp [hm]), fun hm => ror_unique hw m false (by simp [hm]),
    fun hm => ror_unique hw m false (by simp [hm]; omega), ?_⟩
  · simpa using ror_law hw m false
  · intro i s t c hi ht
    obtain ⟨hc, hn, hz⟩ := shiftStore_flags ((exec_LSR i s hi).symm.trans ht)
    refine ⟨hc, hz, exec_setC_of_shift (.inr hi) ht c, ?_⟩
    rw [hn, lsr_eq_ror, ror_getLsbD_last (bits_pos s.width)]

/-- Settles O24: ROL's bits and law, the corner cases as solutions of the law, and the flags by `shiftStore_flags`. -/
theorem rolIsADoublingThroughTheCarry : Obligations.RolIsADoublingThroughTheCarry := by
  intro w m cin r cout
  have hw := bits_pos w
  have hbits := two_pow_bits w
  refine ⟨fun j hj => rol_getLsbD m cin hj, rol_snd m cin, rol_law hw m cin, ?_, ?_, ?_, ?_⟩
  · rintro ⟨hm, rfl⟩
    exact rol_unique hw m true (by omega) (by simp [hm])
  · rintro ⟨hm, rfl⟩
    exact rol_unique hw m false (by simp) (by simp [hm]; omega)
  · rintro ⟨hm, rfl⟩
    obtain ⟨hr, hout⟩ : (rol m true).1.toNat = 2 ^ w.bits - 1 ∧ (rol m true).2 = true :=
      rol_unique hw m true (by simp) (by simp [hm]; omega)
    refine ⟨hr, hout, ?_⟩
    rw [BitVec.msb_eq_decide, hr, decide_eq_true_iff]
    show 2 ^ w.msb ≤ _
    omega
  · intro i s t hi ht
    obtain ⟨hc, hn, hz⟩ := shiftStore_flags ((exec_ROL i s hi).symm.trans ht)
    exact ⟨hc, hn.trans, hz⟩

/-- Settles O25: ROR's bits and law, the corner cases as solutions of the law, and n as the bit shifted in. -/
theorem rorIsAHalvingThroughTheCarry : Obligations.RorIsAHalvingThroughTheCarry := by
  intro w m cin r cout
  have hw := bits_pos w
  have hbits := two_pow_bits w
  refine ⟨fun j hj => ror_getLsbD hw m cin hj, ror_snd m cin, ror_law hw m cin, ?_, ?_, ?_⟩
  · rintro ⟨hm, rfl⟩
    exact ror_unique hw m true (by simp [hm]; omega)
  · rintro ⟨hm, rfl⟩
    exact ror_unique hw m false (by simp [hm])
  · intro i s t hi ht
    obtain ⟨hc, hn, hz⟩ := shiftStore_flags ((exec_ROR i s hi).symm.trans ht)
    exact ⟨hc, hz, hn.trans (ror_getLsbD_last (bits_pos s.width) _ _)⟩

end Sys2Proof.Shifts
end

section
/-! The round trip between instructions and bytes (R60, R62, R67): the decoder gives back what the encoder wrote, and
the encoder writes back what the decoder read. Both rest on one fact, that the opcode map gives exactly the instruction
of its opcode byte whose operand is put together from the operand bytes. -/

open Sys2Proof Sys2Proof.Encoding

namespace Sys2Proof.RoundTrip

/-! ### The opcode map, from the operand to the instruction -/

/-- The opcode map gives every instruction whose operand is put together from the operand bytes (R67). -/
theorem instrOf_of_assembled {w : Width} {b1 b2 b3 : Byte} {i : Instr} (h : Assembled w b1 b2 b3 i.operand) :
    instrOf w i.opcode b1 b2 b3 = some i := by
  cases i
  case aslAcc | lsrAcc | rolAcc | rorAcc => rfl
  all_goals
    cases h
    rfl

/-! ### Well-formedness is a property of the operand -/

/-- The operand fills its bytes exactly: only a constant can fail to (R65). -/
def operandFits (w : Width) : Operand → Bool
  | .imm k => constFits w k
  | .acc => true
  | .mem _ => true

theorem wellFormed_eq_operandFits (w : Width) (i : Instr) : i.wellFormed w = operandFits w i.operand := by
  cases i <;> rfl

/-- An operand put together from bytes fits: with W = 8 the high byte of its constant is 0. -/
theorem operandFits_of_assembled {w : Width} {b1 b2 b3 : Byte} {o : Operand} (h : Assembled w b1 b2 b3 o) :
    operandFits w o = true := by
  cases o with
  | acc => rfl
  | mem m => rfl
  | imm k =>
    obtain rfl : k = assembleConst w b1 b2 := h
    cases w with
    | w16 => rfl
    | w8 =>
      have hlt : b1.toNat < 256 := b1.isLt
      simp only [operandFits, constFits, assembleConst, BitVec.toNat_setWidth, decide_eq_true_eq]
      omega

/-- A fitting operand is put together from its own bytes, whatever follows them. -/
theorem assembled_bytes {w : Width} {o : Operand} (h : operandFits w o = true) (more : List Byte) :
    Assembled w ((o.bytes w ++ more).getD 0 0) ((o.bytes w ++ more).getD 1 0) ((o.bytes w ++ more).getD 2 0) o := by
  cases o with
  | acc => trivial
  | imm k =>
    cases w with
    | w8 => exact (assembleConst_w8 k h _).symm
    | w16 => exact (assemble16_bytes k).symm
  | mem m =>
    cases m with
    | abs a | absX a | absY a => exact (assemble16_bytes a).symm
    | long a | longX a => exact (assemble24_bytes a).symm
    | dp | dpInd | dpIndL | dpX | dpXInd | dpIndY | dpIndLY | sr | srIndY => rfl

/-! ### Lengths -/

theorem bytes_length (w : Width) (o : Operand) : (o.bytes w).length = o.byteCount w := by
  cases o with
  | acc => rfl
  | imm k => cases w <;> rfl
  | mem m => cases m <;> rfl

/-- The encoding has the instruction's length (R63). -/
theorem encode_length (w : Width) (i : Instr) : (encode w i).length = i.length w := by
  rw [encode, List.length_cons, bytes_length, Instr.length, Nat.add_comm]

/-! ### The decoder -/

/-- The decoder answers the instruction of the opcode map when the list holds all of its operand bytes. -/
theorem decode_cons_of_instrOf {w : Width} {op : Byte} {bs : List Byte} {i : Instr}
    (hmap : instrOf w op (bs.getD 0 0) (bs.getD 1 0) (bs.getD 2 0) = some i)
    (hlen : i.operand.byteCount w ≤ bs.length) :
    decode w (op :: bs) = .ok (i, bs.drop (i.operand.byteCount w)) := by
  simp only [decode, hmap, Nat.not_lt.2 hlen, if_false]

/-- The opcode map has an instruction for each row, whatever the operand bytes. -/
theorem instrOf_isSome_of_row (w : Width) (b1 b2 b3 : Byte) :
    ∀ row ∈ Claims.opcodeRows, (instrOf w row.1 b1 b2 b3).isSome = true :=
  List.all_eq_true.1 rfl

/-- It has none for a byte of no row (R69). -/
theorem instrOf_eq_none_of_unlisted {op : Byte} (h : ∀ row ∈ Claims.opcodeRows, row.1 ≠ op) (w : Width)
    (b1 b2 b3 : Byte) : instrOf w op b1 b2 b3 = none := by
  rw [Option.eq_none_iff_forall_ne_some]
  intro i hi
  obtain ⟨hop, -⟩ := instrOf_eq_some hi
  exact h _ (row_mem_opcodeRows i) hop

theorem decode_unlisted {op : Byte} (h : ∀ row ∈ Claims.opcodeRows, row.1 ≠ op) (w : Width) (rest : List Byte) :
    decode w (op :: rest) = .error (.unknownOpcode op) := by
  simp only [decode, instrOf_eq_none_of_unlisted h]

/-- The instruction of a row's opcode byte has the row's mnemonic and mode. -/
theorem row_of_opcode_eq {row : Byte × Mnemonic × Mode} (hrow : row ∈ Claims.opcodeRows) {i : Instr}
    (h : i.opcode = row.1) : (i.opcode, i.mnemonic, i.operand.mode) = row :=
  List.inj_on_of_nodup_map opcodeRows_opcodes_nodup (row_mem_opcodeRows i) hrow h

/-! ### The statements -/

/-- Settles O1: a well-formed instruction's operand is put together from its own bytes, so the opcode map gives the
instruction back, and the decoder drops exactly those bytes. -/
theorem decodeOfEncodeIsTheInstruction : Obligations.DecodeOfEncodeIsTheInstruction := by
  intro w i rest hwf
  rw [wellFormed_eq_operandFits] at hwf
  have hmap := instrOf_of_assembled (assembled_bytes hwf rest)
  have hlen : i.operand.byteCount w ≤ (i.operand.bytes w ++ rest).length := by
    rw [List.length_append, bytes_length]
    exact Nat.le_add_right _ _
  have hdrop : (i.operand.bytes w ++ rest).drop (i.operand.byteCount w) = rest :=
    List.drop_left' (bytes_length w i.operand)
  rw [encode, List.cons_append, decode_cons_of_instrOf hmap hlen, hdrop]

/-- Settles O2: the opcode map puts the operand together from bytes, so it fits, and its bytes are those that
`decode_cons_reads` says were read. -/
theorem encodeOfDecodeIsTheBytes : Obligations.EncodeOfDecodeIsTheBytes := by
  intro w bytes i rest h
  cases bytes with
  | nil => cases h
  | cons op bs =>
    obtain ⟨hmap, -, -⟩ := decode_cons_eq_ok h
    obtain ⟨-, hasm⟩ := instrOf_eq_some hmap
    obtain ⟨hop, hbytes, hrest⟩ := decode_cons_reads h
    refine ⟨?_, ?_⟩
    · rw [wellFormed_eq_operandFits]
      exact operandFits_of_assembled hasm
    · rw [encode, hop, hbytes, hrest, List.cons_append, List.take_append_drop]

/-- Settles O5: a row's byte is in the map, which then names the row's mnemonic and mode because no two rows share a
byte; a byte of no row is not in the map. -/
theorem opcodeMapHasExactlyTheListedRows : Obligations.OpcodeMapHasExactlyTheListedRows := by
  refine ⟨?_, fun op h w rest => decode_unlisted h w rest, opcodeRows_opcodes_nodup, rfl⟩
  intro row hrow w b1 b2 b3
  obtain ⟨i, hmap⟩ := Option.isSome_iff_exists.1 (instrOf_isSome_of_row w b1 b2 b3 row hrow)
  obtain ⟨hop, -⟩ := instrOf_eq_some hmap
  have heq := row_of_opcode_eq hrow hop
  refine ⟨i, _, decode_cons_of_instrOf hmap (byteCount_le_three w i.operand), ?_, ?_⟩
  · exact congrArg (fun r => r.2.1) heq
  · exact congrArg (fun r => r.2.2) heq

/-- Settles O6: each of the eleven words, by evaluation of the decoder. -/
theorem wordsWrittenOutDecodeAsTheirRowsSay : Obligations.WordsWrittenOutDecodeAsTheirRowsSay :=
  ⟨rfl, rfl, rfl, rfl, rfl, rfl, rfl, rfl, rfl, rfl, rfl⟩

end Sys2Proof.RoundTrip
end

section
/-! What an instruction changes and what it leaves alone (R10 to R28). Every instruction computes one value, puts it in
one place, and writes flags in `P`; the frame of all 74 follows from the frame of that one store. -/

open Sys2Proof Sys2Proof.Machine Sys2Proof.Flags

namespace Sys2Proof.Frame

/-! ### One value, one place -/

/-- The value a mnemonic computes from `AccW`, its operand and c. BIT computes none, and its operand stands for it. -/
def newValue {n : Nat} (acc m : BitVec n) (c : Bool) : Mnemonic → BitVec n
  | .AND => acc &&& m
  | .EOR => acc ^^^ m
  | .ORA => acc ||| m
  | .BIT => m
  | .ASL => (asl m).1
  | .LSR => (lsr m).1
  | .ROL => (rol m c).1
  | .ROR => (ror m c).1
  | .TRB => m &&& ~~~acc
  | .TSB => m ||| acc

/-- The value as computed in a state. -/
def valueIn (w : Width) (o : Operand) (s : State) (mn : Mnemonic) : BitVec w.bits :=
  newValue (s.acc w) (readOp w o s) s.flagC mn

/-- Put the value in its place: `AccW` for AND, EOR and ORA, nowhere for BIT, the operand's place for the others. -/
def store (w : Width) (o : Operand) (v : BitVec w.bits) (s : State) : Mnemonic → State
  | .AND | .EOR | .ORA => s.setAcc w v
  | .BIT => s
  | .ASL | .LSR | .ROL | .ROR | .TRB | .TSB => writeOp w o v s

/-- A mnemonic stores its value, and writes nothing else but `P`. -/
theorem operate_eq_store (w : Width) (o : Operand) (s : State) (mn : Mnemonic) :
    operate w o s mn = { store w o (valueIn w o s mn) s mn with p := (operate w o s mn).p } := by
  cases mn with
  | BIT =>
    simp only [operate, bitEffect]
    split <;> rfl
  | AND | EOR | ORA | ASL | LSR | ROL | ROR | TRB | TSB => rfl

theorem store_of_modify {w : Width} {o : Operand} {v : BitVec w.bits} {s : State} {mn : Mnemonic}
    (h : mn ∉ [Mnemonic.AND, .EOR, .ORA, .BIT]) : store w o v s mn = writeOp w o v s := by
  cases mn with
  | AND | EOR | ORA | BIT => simp at h
  | ASL | LSR | ROL | ROR | TRB | TSB => rfl

/-! ### The frame of the store -/

theorem writeOp_mem_of_not_mem {w : Width} {o : Operand} {v : BitVec w.bits} {s : State}
    (h : ∀ m, o ≠ .mem m) : (writeOp w o v s).mem = s.mem := by
  cases o with
  | acc => exact State.setAcc_mem s w v
  | imm k => rfl
  | mem m => exact absurd rfl (h m)

theorem store_mem_of_read {w : Width} {o : Operand} {v : BitVec w.bits} {s : State} {mn : Mnemonic}
    (h : mn ∈ [Mnemonic.AND, .EOR, .ORA, .BIT]) : (store w o v s mn).mem = s.mem := by
  cases mn with
  | AND | EOR | ORA => exact State.setAcc_mem s w v
  | BIT => rfl
  | ASL | LSR | ROL | ROR | TRB | TSB => simp at h

/-- What a store leaves alone, wherever it goes: every register but `A`, and `P`. -/
theorem store_frame (w : Width) (o : Operand) (v : BitVec w.bits) (s : State) (mn : Mnemonic) :
    Claims.SameRest s (store w o v s mn) ∧ (store w o v s mn).pc = s.pc ∧ (store w o v s mn).p = s.p := by
  cases mn with
  | AND | EOR | ORA => simp [store, Claims.SameRest]
  | BIT => simp [store, Claims.SameRest]
  | ASL | LSR | ROL | ROR | TRB | TSB =>
    obtain ⟨hcpu, hadmit, he, hx, hy, hsp, hd, hdbr, hpbr, hpc, hp⟩ := writeOp_frame w o v s
    exact ⟨⟨hcpu, hadmit, he, hx, hy, hsp, hd, hdbr, hpbr, congrArg (fun p => p.extractLsb' 2 4) hp⟩, hpc, hp⟩

/-- The bits of `A` from W up are kept by every write of an operand (R11). -/
theorem writeOp_a_high (w : Width) (o : Operand) (v : BitVec w.bits) (s : State) {j : Nat} (hj : w.bits ≤ j) :
    (writeOp w o v s).a.getLsbD j = s.a.getLsbD j := by
  cases o with
  | acc => exact (State.setAcc_getLsbD s w v j).trans (if_neg (Nat.not_lt.2 hj))
  | imm k => rfl
  | mem m => rw [writeOp_mem_a]

theorem store_a_high (w : Width) (o : Operand) (v : BitVec w.bits) (s : State) (mn : Mnemonic) {j : Nat}
    (hj : w.bits ≤ j) : (store w o v s mn).a.getLsbD j = s.a.getLsbD j := by
  cases mn with
  | AND | EOR | ORA => exact (State.setAcc_getLsbD s w v j).trans (if_neg (Nat.not_lt.2 hj))
  | BIT => rfl
  | ASL | LSR | ROL | ROR | TRB | TSB => exact writeOp_a_high w o v s hj

/-- `A` is kept where it is not the destination. -/
theorem store_a {w : Width} {o : Operand} {v : BitVec w.bits} {s : State} {mn : Mnemonic}
    (hmn : mn ∉ [Mnemonic.AND, .EOR, .ORA]) (ho : o ≠ .acc) : (store w o v s mn).a = s.a := by
  cases mn with
  | AND | EOR | ORA => simp at hmn
  | BIT => rfl
  | ASL | LSR | ROL | ROR | TRB | TSB =>
    cases o with
    | acc => exact absurd rfl ho
    | imm k => rfl
    | mem m => exact writeOp_mem_a w m v s

/-! ### The frame of an instruction -/

section
variable (w : Width) (o : Operand) (s : State) (mn : Mnemonic)

theorem operate_a : (operate w o s mn).a = (store w o (valueIn w o s mn) s mn).a :=
  (congrArg State.a (operate_eq_store w o s mn)).trans rfl

theorem operate_mem : (operate w o s mn).mem = (store w o (valueIn w o s mn) s mn).mem :=
  (congrArg State.mem (operate_eq_store w o s mn)).trans rfl

/-- No instruction writes `P[5:2]` (R25). -/
theorem operate_flagsMiddle : (operate w o s mn).flagsMiddle = s.flagsMiddle := by
  have hwrite : ∀ v : BitVec w.bits, (writeOp w o v s).flagsMiddle = s.flagsMiddle := fun v =>
    congrArg (fun p => p.extractLsb' 2 4) (writeOp_p w o v s)
  cases mn with
  | AND | EOR | ORA => simp [operate, accEffect, State.flagsNZ]
  | BIT =>
    simp only [operate, bitEffect]
    split
    · simp [State.flagZTest]
    · simp [State.flagZTest, State.flagsTopBits]
  | ASL | LSR | ROL | ROR => simp [operate, shiftEffect, State.flagsNZ, hwrite]
  | TRB | TSB => simp [operate, testEffect, State.flagZTest, hwrite]

theorem operate_sameRest : Claims.SameRest s (operate w o s mn) := by
  obtain ⟨⟨hcpu, hadmit, he, hx, hy, hsp, hd, hdbr, hpbr, -⟩, -, -⟩ := store_frame w o (valueIn w o s mn) s mn
  have heq := operate_eq_store w o s mn
  exact ⟨(congrArg State.cpu heq).trans hcpu, (congrArg State.memAdmit heq).trans hadmit,
    (congrArg State.e heq).trans he, (congrArg State.x heq).trans hx, (congrArg State.y heq).trans hy,
    (congrArg State.sp heq).trans hsp, (congrArg State.d heq).trans hd, (congrArg State.dbr heq).trans hdbr,
    (congrArg State.pbr heq).trans hpbr, operate_flagsMiddle w o s mn⟩

theorem operate_pc : (operate w o s mn).pc = s.pc := by
  obtain ⟨-, hpc, -⟩ := store_frame w o (valueIn w o s mn) s mn
  exact (congrArg State.pc (operate_eq_store w o s mn)).trans hpc

end

section
variable (w : Width) (i : Instr) (s : State)

theorem effect_sameRest : Claims.SameRest s (effect w i s) := operate_sameRest w i.operand s i.mnemonic

theorem effect_a : (effect w i s).a = (store w i.operand (valueIn w i.operand s i.mnemonic) s i.mnemonic).a :=
  operate_a w i.operand s i.mnemonic

theorem effect_mem : (effect w i s).mem = (store w i.operand (valueIn w i.operand s i.mnemonic) s i.mnemonic).mem :=
  operate_mem w i.operand s i.mnemonic

/-- The advance of `PC` is part of every effect (R17). -/
theorem effect_advanced : Claims.Advanced i s (effect s.width i s) := by
  have hpc : (effect s.width i s).pc = s.pc + BitVec.ofNat 16 (i.length s.width) :=
    congrArg (· + BitVec.ofNat 16 (i.length s.width)) (operate_pc s.width i.operand s i.mnemonic)
  rw [Claims.Advanced, hpc, BitVec.toNat_add, BitVec.toNat_ofNat, Nat.add_mod_mod]

theorem effect_a_high {j : Nat} (hj : w.bits ≤ j) : (effect w i s).a.getLsbD j = s.a.getLsbD j := by
  rw [effect_a]
  exact store_a_high w _ _ s _ hj

end

/-- An operand that is modified is not a constant (R63). -/
theorem operand_ne_imm_of_modify {i : Instr} (h : i.mnemonic ∉ [Mnemonic.AND, .EOR, .ORA, .BIT]) (k : Word) :
    i.operand ≠ .imm k := by
  intro hk
  have himm := Encoding.mnemonic_mem_of_mode_imm i (by rw [hk]; rfl)
  simp only [List.mem_cons] at h himm
  tauto

/-- An instruction that only reads its operand leaves memory alone. -/
theorem effect_mem_of_read {w : Width} {i : Instr} {s : State} (h : i.mnemonic ∈ [Mnemonic.AND, .EOR, .ORA, .BIT]) :
    (effect w i s).mem = s.mem := by
  rw [effect_mem, store_mem_of_read h]

theorem storedAddrs_of_read {i : Instr} (s : State) (h : i.mnemonic ∈ [Mnemonic.AND, .EOR, .ORA, .BIT]) :
    Claims.storedAddrs i s = [] := by
  unfold Claims.storedAddrs
  split
  · rw [if_pos h]
  · rfl
  · rfl

/-- An instruction stores its value in memory, at the addresses found before it, or leaves memory alone (R82). -/
theorem effect_mem_cases (i : Instr) (s : State) :
    (∃ m v, i.operand = .mem m ∧ Claims.storedAddrs i s = (ea s m).writes s.width
        ∧ (effect s.width i s).mem = (writeMem s (ea s m) s.width v).mem)
      ∨ Claims.storedAddrs i s = [] ∧ (effect s.width i s).mem = s.mem := by
  by_cases hr : i.mnemonic ∈ [Mnemonic.AND, .EOR, .ORA, .BIT]
  · exact .inr ⟨storedAddrs_of_read s hr, effect_mem_of_read hr⟩
  · have hmem := effect_mem s.width i s
    rw [store_of_modify hr] at hmem
    cases ho : i.operand with
    | mem m =>
      refine .inl ⟨m, _, rfl, ?_, by rw [hmem, ho]; rfl⟩
      simp only [Claims.storedAddrs, ho, if_neg hr]
    | acc | imm k =>
      refine .inr ⟨by simp only [Claims.storedAddrs, ho], ?_⟩
      rw [hmem, writeOp_mem_of_not_mem (by simp [ho])]

/-- Every byte outside the addresses stored to reads as before. -/
theorem effect_sameBytesOutside (i : Instr) (s : State) :
    Claims.SameBytesOutside s (effect s.width i s) (Claims.storedAddrs i s) := by
  intro b hb
  obtain ⟨m, v, -, hst, hmem⟩ | ⟨-, hmem⟩ := effect_mem_cases i s
  · rw [hst] at hb
    calc (effect s.width i s).readByte b = (writeMem s (ea s m) s.width v).readByte b :=
        congrArg (fun mem => Memory.read mem b.toNat) hmem
      _ = s.readByte b := readByte_writeMem_other s (ea s m) s.width v hb
  · exact congrArg (fun mem => Memory.read mem b.toNat) hmem

/-- Modified operands hold the value afterwards, in the place found before (R82). -/
theorem operandAfter_effect {i : Instr} {s : State} (h : i.mnemonic ∉ [Mnemonic.AND, .EOR, .ORA, .BIT])
    (hwf : s.mem.wf = true) :
    Claims.operandAfter i.operand s (effect s.width i s) = valueIn s.width i.operand s i.mnemonic := by
  have ha := effect_a s.width i s
  have hmem := effect_mem s.width i s
  rw [store_of_modify h] at ha hmem
  cases ho : i.operand with
  | acc =>
    rw [ho] at ha
    exact (acc_of_a_eq ha _).trans (State.acc_setAcc s s.width _)
  | imm k => exact absurd ho (operand_ne_imm_of_modify h k)
  | mem m =>
    rw [ho] at hmem
    exact (readMem_of_mem_eq hmem _ _).trans (readMem_writeMem_same hwf (ea1_ne_ea0 s m) _ _)

/-- `A` changes in a modified operand's bits alone (R11). -/
theorem effect_sameABut {i : Instr} (s : State) (h : i.mnemonic ∉ [Mnemonic.AND, .EOR, .ORA]) :
    Claims.SameABut i.operand s (effect s.width i s) := by
  refine ⟨fun ho => ?_, fun j hj => effect_a_high s.width i s hj⟩
  rw [effect_a, store_a h ho]

/-! ### A step -/

/-- Equal `P[5:2]` are four equal bits of `P`. -/
theorem p_getLsbD_of_flagsMiddle {s t : State} (h : t.flagsMiddle = s.flagsMiddle) {k : Nat} (h2 : 2 ≤ k)
    (h5 : k ≤ 5) :
    t.p.getLsbD k = s.p.getLsbD k := by
  have hbit : ∀ u : State, u.flagsMiddle.getLsbD (k - 2) = u.p.getLsbD k := fun u => by
    have hlt : k - 2 < 4 := by omega
    have hk : 2 + (k - 2) = k := by omega
    simp only [State.flagsMiddle, BitVec.getLsbD_extractLsb', hlt, hk, decide_true, Bool.true_and]
  rw [← hbit t, ← hbit s, h]

/-- Equal processors and equal `P[5:2]` give equal m and equal W (R4, R20). -/
theorem width_of_sameRest {s t : State} (h : Claims.SameRest s t) : t.flagM = s.flagM ∧ t.width = s.width := by
  obtain ⟨hcpu, -, -, -, -, -, -, -, -, hmid⟩ := h
  have hm : t.flagM = s.flagM := p_getLsbD_of_flagsMiddle hmid (by decide) (by decide)
  exact ⟨hm, by unfold State.width; rw [hm, hcpu]⟩

/-- Every next state of a step is the effect of some instruction. -/
theorem step_next_effect {s t : State} (h : step s = .next t) :
    ∃ i, Claims.Ready i s (Claims.touched i s) ∧ fetchInstr s = .ok i ∧ t = effect s.width i s := by
  obtain ⟨i, hf, hx⟩ := (step_eq_next s t).1 h
  obtain ⟨hr, ht⟩ := (exec_eq_next i s t).1 hx
  exact ⟨i, hr, hf, ht⟩

/-! ### The statements -/

/-- Settles O45: the frame of an effect, and W is decided by what the frame keeps. -/
theorem noStepChangesTheOtherRegisters : Obligations.NoStepChangesTheOtherRegisters := by
  intro s t h
  obtain ⟨i, -, -, rfl⟩ := step_next_effect h
  have hrest := effect_sameRest s.width i s
  exact ⟨hrest, width_of_sameRest hrest⟩

/-- Settles O46, clause by clause from the frame of an effect. -/
theorem onlyTheDestinationChanges : Obligations.OnlyTheDestinationChanges := by
  intro i s t h
  obtain ⟨-, rfl⟩ := (exec_eq_next i s t).1 h
  refine ⟨fun hmn ho => ?_, fun j hj => effect_a_high s.width i s hj, effect_sameBytesOutside i s, effect_advanced i s⟩
  obtain ⟨ha, -⟩ := effect_sameABut s hmn
  exact ha ho

end Sys2Proof.Frame
end

section
/-! What a step can answer (R8, R245): which instruction it runs, when it completes, and which refusal it ends in when it
does not. -/

open Sys2Proof Sys2Proof.Machine Sys2Proof.Flags Sys2Proof.Encoding Sys2Proof.RoundTrip

namespace Sys2Proof.Outcomes

/-! ### The guard, refusal by refusal -/

/-- The first refused address, as a place in the list of addresses (R43). -/
theorem firstRefused_eq_some (s : State) (as : List Addr) (a : Addr) :
    s.firstRefused as = some a ↔
      ∃ before after, as = before ++ a :: after ∧ s.admits a = false ∧ ∀ b ∈ before, s.admits b = true := by
  simp only [State.firstRefused, List.find?_eq_some_iff_append, Bool.not_eq_true', Bool.not_eq_false']
  constructor
  · rintro ⟨ha, before, after, heq, hb⟩
    exact ⟨before, after, heq, ha, fun b h => by simpa using hb b h⟩
  · rintro ⟨before, after, heq, ha, hb⟩
    exact ⟨ha, before, after, heq, fun b h => by simpa using hb b h⟩

/-- Every refusal of an instruction. -/
theorem exec_eq_refused (i : Instr) (s : State) (r : Refusal) :
    exec i s = .refused r ↔
      (s.emulating = true ∧ r = .emulationMode)
      ∨ (s.emulating = false ∧ s.cpu ∉ i.cpus ∧ r = .notAvailableOnCpu i.opcode s.cpu)
      ∨ (s.emulating = false ∧ s.cpu ∈ i.cpus
          ∧ ∃ a, s.firstRefused (Claims.touched i s) = some a ∧ r = .memNotAdmitted a) := by
  rw [exec_eq_checked, checked_eq_refused]

/-- An instruction completes, or is refused. -/
theorem exec_next_or_refused (i : Instr) (s : State) :
    (∃ t, exec i s = .next t) ∨ ∃ r, exec i s = .refused r := by
  cases exec i s with
  | next t => exact .inl ⟨t, rfl⟩
  | refused r => exact .inr ⟨r, rfl⟩
  | fault f => exact nomatch f

/-! ### The fetch -/

theorem fetchInstr_of_emulating {s : State} (h : s.emulating = true) : fetchInstr s = .error .emulationMode := by
  simp only [fetchInstr, h, if_true]

section
variable {s : State} (he : s.emulating = false) (ha : s.admits (s.fetchAddr 0) = true)
include he ha

theorem fetchInstr_of_decode_error {err : DecodeError} (hd : decode s.width s.fetchWindow = .error err) :
    fetchInstr s = .error (.unknownOpcode (s.fetch8 0)) := by
  simp [fetchInstr, he, ha, hd]

theorem fetchInstr_of_lacking {i : Instr} {rest : List Byte} (hd : decode s.width s.fetchWindow = .ok (i, rest))
    (hc : s.cpu ∉ i.cpus) : fetchInstr s = .error (.notAvailableOnCpu i.opcode s.cpu) := by
  simp [fetchInstr, he, ha, hd, hc]

end

/-- Every refusal of a fetch is one of the listed ones. -/
theorem fetchInstr_error_cases {s : State} {r : Refusal} (h : fetchInstr s = .error r) :
    r = .emulationMode ∨ (∃ a, r = .memNotAdmitted a) ∨ (∃ op, r = .unknownOpcode op)
      ∨ ∃ op c, r = .notAvailableOnCpu op c := by
  unfold fetchInstr at h
  split at h
  · cases h
    exact .inl rfl
  · split at h
    · cases h
      exact .inr (.inl ⟨_, rfl⟩)
    · split at h
      · cases h
        exact .inr (.inr (.inl ⟨_, rfl⟩))
      · split at h
        · cases h
          exact .inr (.inr (.inr ⟨_, _, rfl⟩))
        · split at h
          · cases h
            exact .inr (.inl ⟨_, rfl⟩)
          · cases h

/-- The first byte of the fetched instruction is its opcode byte. -/
theorem opcode_eq_fetch8 {s : State} {i : Instr} {rest : List Byte}
    (h : decode s.width s.fetchWindow = .ok (i, rest)) : i.opcode = s.fetch8 0 := by
  obtain ⟨hop, -, -⟩ := decode_cons_reads h
  exact hop

theorem length_pos (w : Width) (i : Instr) : 0 < i.length w := by
  unfold Instr.length
  omega

theorem length_le_four (w : Width) (i : Instr) : i.length w ≤ 4 := by
  have := byteCount_le_three w i.operand
  unfold Instr.length
  omega

/-! ### The step -/

theorem step_of_fetch {s : State} {i : Instr} (h : fetchInstr s = .ok i) : step s = exec i s := by
  simp only [step, h]

theorem step_of_fetch_error {s : State} {r : Refusal} (h : fetchInstr s = .error r) : step s = .refused r := by
  simp only [step, h]

theorem getElem?_take_fetchWindow {s : State} {len k : Nat} (hk : k < len) (hlen : len ≤ 4) :
    (s.fetchWindow.take len)[k]? = some (s.fetch8 k) := by
  have hk4 : k < 4 := by omega
  rw [List.getElem?_take_of_lt hk]
  interval_cases k <;> rfl

/-- Bytes that agree with the fetched ones, one by one, are the front of the fetch window. -/
theorem eq_take_fetchWindow {s : State} {bytes : List Byte} (hlen : bytes.length ≤ 4)
    (h : ∀ k, k < bytes.length → bytes[k]? = some (s.fetch8 k)) : bytes = s.fetchWindow.take bytes.length := by
  apply List.ext_getElem?
  intro k
  by_cases hk : k < bytes.length
  · rw [h k hk, getElem?_take_fetchWindow hk hlen]
  · rw [List.getElem?_eq_none (by omega), List.getElem?_eq_none (by simp; omega)]

/-! ### Which processors have an instruction (R66) -/

/-- The marks of an instruction's row, by its opcode byte. -/
theorem cpus_eq_of_opcode (i : Instr) : i.cpus =
    if i.opcode ∈ Claims.oneMarkOpcodes then only65816
    else if i.opcode ∈ Claims.twoMarkOpcodes then cmosCpus else allCpus := by
  cases i <;> rfl

theorem oneMark_twoMark_disjoint : ∀ op ∈ Claims.oneMarkOpcodes, op ∉ Claims.twoMarkOpcodes := by
  decide

theorem cpu_not_mem_cpus_iff (i : Instr) (c : Cpu) : c ∉ i.cpus ↔
    (i.opcode ∈ Claims.oneMarkOpcodes ∧ c ≠ .cpu65816) ∨ (i.opcode ∈ Claims.twoMarkOpcodes ∧ c = .cpu6502) := by
  rw [cpus_eq_of_opcode]
  by_cases h1 : i.opcode ∈ Claims.oneMarkOpcodes
  · have h2 := oneMark_twoMark_disjoint _ h1
    simp [h1, h2, only65816]
  · by_cases h2 : i.opcode ∈ Claims.twoMarkOpcodes
    · cases c <;> simp [h1, h2, cmosCpus]
    · cases c <;> simp [h1, h2, allCpus]

/-! ### The statements: what a step runs -/

/-- Settles O7: the hypotheses are what `fetchInstr_eq_ok` asks for. -/
theorem stepRunsTheDecodedInstruction : Obligations.StepRunsTheDecodedInstruction := by
  intro s i rest he hd hc hk
  exact step_of_fetch ((fetchInstr_eq_ok s i).2 ⟨he, hk 0 (length_pos _ i), ⟨rest, hd⟩, hc, hk⟩)

/-- Settles O8: the encoding is the front of the fetch window, which therefore decodes to the instruction (O1). -/
theorem stepRunsTheEncodedInstruction : Obligations.StepRunsTheEncodedInstruction := by
  intro s i he hc hwf hk
  have hlen : (encode s.width i).length = i.length s.width := encode_length s.width i
  have hfront : encode s.width i = s.fetchWindow.take (i.length s.width) := by
    rw [← hlen]
    refine eq_take_fetchWindow (hlen ▸ length_le_four s.width i) fun k hk' => ?_
    obtain ⟨-, hbyte⟩ := hk k (hlen ▸ hk')
    exact hbyte
  have hwindow : encode s.width i ++ s.fetchWindow.drop (i.length s.width) = s.fetchWindow := by
    rw [hfront, List.take_append_drop]
  have hd := decodeOfEncodeIsTheInstruction s.width i (s.fetchWindow.drop (i.length s.width)) hwf
  rw [hwindow] at hd
  refine stepRunsTheDecodedInstruction s i _ he hd hc fun k hk' => ?_
  obtain ⟨hadmit, -⟩ := hk k hk'
  exact hadmit

/-- Settles O9: a step completes when its fetch answers an instruction and that instruction completes. -/
theorem stepCompletesExactlyWhenNothingRefusesIt : Obligations.StepCompletesExactlyWhenNothingRefusesIt := by
  intro s
  constructor
  · rintro ⟨t, ht⟩
    obtain ⟨i, hf, hx⟩ := (step_eq_next s t).1 ht
    obtain ⟨he, -, ⟨rest, hd⟩, hc, hk⟩ := (fetchInstr_eq_ok s i).1 hf
    obtain ⟨⟨-, -, ha⟩, -⟩ := (exec_eq_next i s t).1 hx
    exact ⟨he, i, rest, hd, hc, hk, ha⟩
  · rintro ⟨he, i, rest, hd, hc, hk, ha⟩
    refine ⟨effect s.width i s, ?_⟩
    rw [stepRunsTheDecodedInstruction s i rest he hd hc hk]
    exact (exec_eq_next i s _).2 ⟨⟨he, hc, ha⟩, rfl⟩

/-! ### The statements: what refuses a step -/

/-- Settles O37: emulation mode is the first thing the fetch and the guard test. -/
theorem emulationModeIsRefused : Obligations.EmulationModeIsRefused := by
  intro s hcpu hflag
  have he : s.emulating = true := by simp [State.emulating, hcpu, hflag]
  exact ⟨step_of_fetch_error (fetchInstr_of_emulating he), fun i => (exec_eq_refused i s _).2 (.inl ⟨he, rfl⟩)⟩

/-- Settles O38: the guard refuses so exactly when the processor is not marked, which is the two lists; and so does the
fetch, by the opcode byte it read. -/
theorem unavailableInstructionsAreRefused : Obligations.UnavailableInstructionsAreRefused := by
  intro i s he
  refine ⟨?_, fun rest ha hd hc => ?_⟩
  · rw [exec_eq_refused, ← cpu_not_mem_cpus_iff]
    simp [he]
  · rw [← opcode_eq_fetch8 hd]
    exact step_of_fetch_error (fetchInstr_of_lacking he ha hd hc)

/-- Settles O39: the decoder refuses the byte, and the fetch names it. -/
theorem unlistedOpcodesAreRefused : Obligations.UnlistedOpcodesAreRefused := by
  intro s he ha hop
  exact step_of_fetch_error (fetchInstr_of_decode_error he ha (decode_unlisted hop s.width _))

/-- Settles O40: of the guard's three refusals only the third is left, and it names the first refused address. -/
theorem accessesOutsidePlainMemoryAreRefused : Obligations.AccessesOutsidePlainMemoryAreRefused := by
  intro i s he hc
  refine ⟨fun a => ?_, ?_⟩
  · rw [exec_eq_refused, ← firstRefused_eq_some]
    simp [he, hc]
  · constructor
    · rintro ⟨t, ht⟩
      obtain ⟨⟨-, -, ha⟩, -⟩ := (exec_eq_next i s t).1 ht
      exact ha
    · exact fun ha => ⟨effect s.width i s, (exec_eq_next i s _).2 ⟨⟨he, hc, ha⟩, rfl⟩⟩

/-- The three refusals an instruction can end in. -/
theorem exec_cases (i : Instr) (s : State) :
    (∃ t, exec i s = .next t) ∨ (∃ op c, exec i s = .refused (.notAvailableOnCpu op c))
      ∨ (∃ a, exec i s = .refused (.memNotAdmitted a)) ∨ exec i s = .refused .emulationMode := by
  obtain hnext | ⟨r, hr⟩ := exec_next_or_refused i s
  · exact .inl hnext
  · obtain ⟨-, rfl⟩ | ⟨-, -, rfl⟩ | ⟨-, -, a, -, rfl⟩ := (exec_eq_refused i s r).1 hr
    · exact .inr (.inr (.inr hr))
    · exact .inr (.inl ⟨_, _, hr⟩)
    · exact .inr (.inr (.inl ⟨a, hr⟩))

/-- Settles O41: a step ends as its fetch does, or as the instruction it fetched does. -/
theorem everyOutcomeIsANextStateOrAListedRefusal : Obligations.EveryOutcomeIsANextStateOrAListedRefusal := by
  intro s i
  refine ⟨?_, exec_cases i s⟩
  cases hf : fetchInstr s with
  | error r =>
    rw [step_of_fetch_error hf]
    obtain rfl | ⟨a, rfl⟩ | ⟨op, rfl⟩ | ⟨op, c, rfl⟩ := fetchInstr_error_cases hf
    · exact .inr (.inr (.inr (.inr rfl)))
    · exact .inr (.inr (.inr (.inl ⟨a, rfl⟩)))
    · exact .inr (.inl ⟨op, rfl⟩)
    · exact .inr (.inr (.inl ⟨op, c, rfl⟩))
  | ok j =>
    rw [step_of_fetch hf]
    obtain hnext | hlack | haddr | hemu := exec_cases j s
    · exact .inl hnext
    · exact .inr (.inr (.inl hlack))
    · exact .inr (.inr (.inr (.inl haddr)))
    · exact .inr (.inr (.inr (.inr hemu)))

end Sys2Proof.Outcomes
end

section
/-! The invariant (State.wf): every step keeps it, and so does every run. Memory stays canonical and inside the address
space because effective addresses are inside it; the registers keep their form because almost none is written. -/

open Sys2Proof Sys2Proof.Machine Sys2Proof.Flags Sys2Proof.Frame

namespace Sys2Proof.Invariant

/-! ### Memory -/

theorem bank0_toNat (off : Word) : (bank0 off).toNat = off.toNat := by
  rw [bank0, BitVec.toNat_append]
  simp

/-- Effective addresses lie inside the address space of the processor (R40). -/
theorem ea_lt (s : State) (m : MemOperand) :
    (ea s m).ea0.toNat < 2 ^ s.cpu.addrBits ∧ (ea s m).ea1.toNat < 2 ^ s.cpu.addrBits := by
  unfold ea
  split
  · next hcpu =>
    rw [hcpu]
    exact ⟨BitVec.isLt _, BitVec.isLt _⟩
  · next hcpu =>
    have hbits : s.cpu.addrBits = 16 := by
      cases hc : s.cpu with
      | cpu65816 => exact absurd hc hcpu
      | cpu6502 | cpu65C02 => rfl
    rw [hbits, EA.inBank0, bank0_toNat, bank0_toNat]
    exact ⟨BitVec.isLt _, BitVec.isLt _⟩

theorem writeMem_below {s : State} {bits : Nat} (h : s.mem.below bits = true) {e : EA}
    (h0 : e.ea0.toNat < 2 ^ bits) (h1 : e.ea1.toNat < 2 ^ bits) (w : Width) (v : BitVec w.bits) :
    (writeMem s e w v).mem.below bits = true := by
  cases w with
  | w8 => exact Memory.write_below h h0 _
  | w16 => exact Memory.write_below (Memory.write_below h h1 _) h0 _

/-- The memory part of the invariant is kept by every effect. -/
theorem effect_mem_keeps (i : Instr) {s : State} (hwf : s.mem.wf = true) (hbelow : s.mem.below s.cpu.addrBits = true) :
    (effect s.width i s).mem.wf = true ∧ (effect s.width i s).mem.below s.cpu.addrBits = true := by
  obtain ⟨m, v, -, -, hmem⟩ | ⟨-, hmem⟩ := effect_mem_cases i s
  · obtain ⟨h0, h1⟩ := ea_lt s m
    rw [hmem]
    exact ⟨writeMem_wf hwf _ _ v, writeMem_below hbelow h0 h1 _ v⟩
  · rw [hmem]
    exact ⟨hwf, hbelow⟩

/-! ### Registers -/

/-- The register part of the invariant on the 6502 and 65C02. -/
theorem registersWf_iff_on8 {s : State} (h : s.cpu ≠ .cpu65816) : s.registersWf = true ↔
    s.a.toNat < 256 ∧ s.x.toNat < 256 ∧ s.y.toNat < 256 ∧ s.sp.toNat < 256 ∧ s.d = 0 ∧ s.dbr = 0 ∧ s.pbr = 0
      ∧ s.e = false := by
  unfold State.registersWf
  split
  · next hc => exact absurd hc h
  · simp [and_assoc]
  · simp [and_assoc]

/-- The register part of the invariant on the 65816. -/
theorem registersWf_iff_on65816 {s : State} (h : s.cpu = .cpu65816) : s.registersWf = true ↔
    (s.p.getLsbD 4 = true → s.x.toNat < 256 ∧ s.y.toNat < 256) := by
  unfold State.registersWf
  rw [h]
  cases s.p.getLsbD 4 <;> simp

/-- The operand width of the 6502 and 65C02 (R4). -/
theorem width_on8 {s : State} (h : s.cpu ≠ .cpu65816) : s.width = .w8 := by
  simp [State.width, h]

/-- A register that keeps its bits from 8 up stays below 256 if it was. -/
theorem toNat_lt_256_of_high_bits {r r' : Word} (h : r.toNat < 256)
    (hbits : ∀ j, 8 ≤ j → r'.getLsbD j = r.getLsbD j) : r'.toNat < 256 := by
  refine Nat.lt_pow_two_of_testBit (n := 8) _ fun j hj => ?_
  calc r'.toNat.testBit j = r.toNat.testBit j := hbits j hj
    _ = false := Nat.testBit_lt_two_pow (Nat.lt_of_lt_of_le h (Nat.pow_le_pow_right (by decide) hj : 2 ^ 8 ≤ 2 ^ j))

theorem effect_registersWf (i : Instr) {s : State} (h : s.registersWf = true) :
    (effect s.width i s).registersWf = true := by
  obtain ⟨hcpu, -, he, hx, hy, hsp, hd, hdbr, hpbr, hmid⟩ := effect_sameRest s.width i s
  by_cases hc : s.cpu = .cpu65816
  · have hp := p_getLsbD_of_flagsMiddle hmid (by decide : 2 ≤ 4) (by decide)
    rw [registersWf_iff_on65816 hc] at h
    rw [registersWf_iff_on65816 (hcpu.trans hc), hp, hx, hy]
    exact h
  · rw [registersWf_iff_on8 hc] at h
    rw [registersWf_iff_on8 (hcpu ▸ hc), hx, hy, hsp, hd, hdbr, hpbr, he]
    obtain ⟨ha, hrest⟩ := h
    have hw : s.width = .w8 := width_on8 hc
    exact ⟨toNat_lt_256_of_high_bits ha fun j hj => effect_a_high s.width i s (hw ▸ hj), hrest⟩

/-! ### The invariant -/

theorem wf_iff (s : State) : s.wf = true ↔
    s.mem.wf = true ∧ s.mem.below s.cpu.addrBits = true ∧ s.registersWf = true := by
  simp [State.wf, and_assoc]

theorem effect_wf (i : Instr) {s : State} (h : s.wf = true) : (effect s.width i s).wf = true := by
  obtain ⟨hcanon, hbelow, hreg⟩ := (wf_iff s).1 h
  obtain ⟨hcanon', hbelow'⟩ := effect_mem_keeps i hcanon hbelow
  obtain ⟨hcpu, -⟩ := effect_sameRest s.width i s
  exact (wf_iff _).2 ⟨hcanon', hcpu ▸ hbelow', effect_registersWf i hreg⟩

/-- Settles O42: a next state is the effect of an instruction, and every effect keeps the three parts of the
invariant. -/
theorem everyStepKeepsTheInvariant : Obligations.EveryStepKeepsTheInvariant := by
  intro s t h ht
  obtain ⟨i, -, -, rfl⟩ := step_next_effect ht
  exact effect_wf i h

/-- Settles O43, by evaluation. -/
theorem resetMeetsTheInvariant : Obligations.ResetMeetsTheInvariant := ⟨rfl, rfl⟩

/-- At reset every address is plain memory: the one region is the whole 24-bit space. -/
theorem reset_admits (a : Addr) : State.reset.admits a = true := by
  have ha : a.toNat < 2 ^ 24 := a.isLt
  simpa [State.admits, State.reset, Region.holds] using ha

/-- Settles O44: the fields by evaluation, the addresses by `reset_admits`. -/
theorem resetHoldsTheValuesTheModelNames : Obligations.ResetHoldsTheValuesTheModelNames :=
  ⟨rfl, rfl, reset_admits, rfl, rfl, rfl, rfl, rfl, rfl, rfl, rfl, rfl, rfl⟩

/-! ### Runs -/

theorem sameRest_refl (s : State) : Claims.SameRest s s := ⟨rfl, rfl, rfl, rfl, rfl, rfl, rfl, rfl, rfl, rfl⟩

theorem sameRest_trans {s t u : State} (hst : Claims.SameRest s t) (htu : Claims.SameRest t u) :
    Claims.SameRest s u := by
  obtain ⟨hcpu, hadmit, he, hx, hy, hsp, hd, hdbr, hpbr, hmid⟩ := hst
  obtain ⟨hcpu', hadmit', he', hx', hy', hsp', hd', hdbr', hpbr', hmid'⟩ := htu
  exact ⟨hcpu'.trans hcpu, hadmit'.trans hadmit, he'.trans he, hx'.trans hx, hy'.trans hy, hsp'.trans hsp,
    hd'.trans hd, hdbr'.trans hdbr, hpbr'.trans hpbr, hmid'.trans hmid⟩

theorem runTo_of_finished {endPbr : Byte} {endPc : Word} {s : State} (h : s.finished endPbr endPc = true) (fuel : Nat) :
    runTo endPbr endPc fuel s = .finished s := by
  cases fuel with
  | zero => simp only [runTo, h, if_true]
  | succ fuel => simp only [runTo, h, if_true]

theorem runTo_of_refused {endPbr : Byte} {endPc : Word} {s : State} {r : Refusal}
    (h : s.finished endPbr endPc = false) (hr : step s = .refused r) (fuel : Nat) :
    runTo endPbr endPc (fuel + 1) s = .refused r := by
  simp [runTo, h, hr]

theorem runTo_of_next {endPbr : Byte} {endPc : Word} {s t : State} (h : s.finished endPbr endPc = false)
    (ht : step s = .next t) (fuel : Nat) : runTo endPbr endPc (fuel + 1) s = runTo endPbr endPc fuel t := by
  simp [runTo, h, ht]

/-- A finished run ends in a finished state, and what every step keeps holds across it: a relation that is reflexive,
and that a step can be put in front of. -/
theorem runTo_finished_induct {endPbr : Byte} {endPc : Word} {R : State → State → Prop} (hrefl : ∀ s, R s s)
    (hstep : ∀ s t u, step s = .next t → R t u → R s u) (fuel : Nat) {s t : State}
    (h : runTo endPbr endPc fuel s = .finished t) : t.finished endPbr endPc = true ∧ R s t := by
  induction fuel generalizing s with
  | zero =>
    by_cases hfin : s.finished endPbr endPc = true
    · obtain rfl : s = t := RunEnd.finished.inj ((runTo_of_finished hfin 0).symm.trans h)
      exact ⟨hfin, hrefl s⟩
    · simp [runTo, hfin] at h
  | succ fuel ih =>
    by_cases hfin : s.finished endPbr endPc = true
    · obtain rfl : s = t := RunEnd.finished.inj ((runTo_of_finished hfin _).symm.trans h)
      exact ⟨hfin, hrefl s⟩
    · have hnot : s.finished endPbr endPc = false := by simpa using hfin
      cases hs : step s with
      | next u =>
        rw [runTo_of_next hnot hs] at h
        obtain ⟨hend, hR⟩ := ih h
        exact ⟨hend, hstep s u t hs hR⟩
      | refused r =>
        rw [runTo_of_refused hnot hs] at h
        cases h
      | fault f => exact nomatch f

theorem finished_iff (s : State) (endPbr : Byte) (endPc : Word) : s.finished endPbr endPc = true ↔
    s.pc = endPc ∧ (s.cpu = .cpu65816 → s.pbr = endPbr) := by
  simp [State.finished, imp_iff_not_or]

/-- What a run carries from its launch: the registers no instruction writes, and the invariant. -/
def Carried (s t : State) : Prop := Claims.SameRest s t ∧ (s.wf = true → t.wf = true)

theorem carried_refl (s : State) : Carried s s := ⟨sameRest_refl s, id⟩

theorem carried_step (s t u : State) (ht : step s = .next t) (htu : Carried t u) : Carried s u := by
  obtain ⟨hrest, hwf⟩ := htu
  obtain ⟨hst, -, -⟩ := noStepChangesTheOtherRegisters s t ht
  exact ⟨sameRest_trans hst hrest, fun h => hwf (everyStepKeepsTheInvariant s t h ht)⟩

/-- Settles O47: what a step keeps (O42, O45), carried along the run by `runTo_finished_induct`. -/
theorem aFinishedRunEndsAtEndPcWithTheLaunchWidth : Obligations.AFinishedRunEndsAtEndPcWithTheLaunchWidth := by
  intro endPbr endPc fuel s
  refine ⟨fun t h => ?_, fun h => runTo_of_finished h fuel, fun r hfin hr => runTo_of_refused hfin hr fuel⟩
  obtain ⟨hfin, hrest, hwf⟩ := runTo_finished_induct carried_refl carried_step fuel h
  obtain ⟨hpc, hpbr⟩ := (finished_iff t endPbr endPc).1 hfin
  obtain ⟨-, hwidth⟩ := width_of_sameRest hrest
  have hcpu : t.cpu = s.cpu := hrest.1
  exact ⟨hpc, fun hc => hpbr (hcpu.trans hc), hrest, hwidth, hwf⟩

end Sys2Proof.Invariant
end

section
/-! Stores and what reads them back: data reads, the instruction fetch, and an instruction placed in memory by the model's
own interface (R41, R50, R53, R61). -/

open Sys2Proof Sys2Proof.Machine Sys2Proof.Outcomes

namespace Sys2Proof.Stores

/-! ### Bytes as numbers -/

theorem byteOf_zero_toNat {n : Nat} (v : BitVec n) : (byteOf 0 v).toNat = v.toNat % 2 ^ 8 := by
  simp [byteOf, BitVec.extractLsb'_toNat]

theorem byteOf_one_toNat (v : Word) : (byteOf 1 v).toNat = v.toNat / 2 ^ 8 := by
  have hlt : v.toNat < 2 ^ 16 := v.isLt
  simp only [byteOf, BitVec.extractLsb'_toNat, Nat.shiftRight_eq_div_pow]
  omega

/-! ### Reading after a store -/

/-- What every address reads as after a byte is written to a canonical memory (R45). -/
theorem readByte_writeByte {s : State} (h : s.mem.wf = true) (a b : Addr) (v : Byte) :
    (s.writeByte a v).readByte b = if b = a then v else s.readByte b := by
  split
  · next heq => rw [heq, State.readByte_writeByte_same h]
  · next hne => exact State.readByte_writeByte_other s v hne

/-- What every address reads as after a store of an operand. -/
theorem readByte_writeMem {s : State} (h : s.mem.wf = true) (e : EA) (w : Width) (v : BitVec w.bits) (b : Addr) :
    (writeMem s e w v).readByte b =
      if b = e.ea0 then byteOf 0 v else if w = .w16 ∧ b = e.ea1 then byteOf 1 v else s.readByte b := by
  cases w with
  | w8 =>
    have hv : byteOf 0 v = v := Encoding.byteOf_zero_self v
    simp only [writeMem, readByte_writeByte h, hv, reduceCtorEq, false_and, if_false]
  | w16 => simp only [writeMem, readByte_writeByte (State.writeByte_wf h _ _), readByte_writeByte h, true_and]

theorem fetch8_writeMem (s : State) (e : EA) (w : Width) (v : BitVec w.bits) (k : Nat) :
    (writeMem s e w v).fetch8 k = (writeMem s e w v).readByte (s.fetchAddr k) := by
  cases w <;> rfl

/-- Settles O36: both clauses on reads are `readByte_writeMem` at the two addresses, and a fetch is such a read. -/
theorem aStoreIsSeenByEveryLaterRead : Obligations.AStoreIsSeenByEveryLaterRead := by
  intro s e w v hwf hne
  have hlow : ((writeMem s e w v).readByte e.ea0).toNat = v.toNat % 2 ^ 8 := by
    rw [readByte_writeMem hwf, if_pos rfl, byteOf_zero_toNat]
  have hhigh : w = .w16 → ((writeMem s e w v).readByte e.ea1).toNat = v.toNat / 2 ^ 8 := by
    rintro rfl
    rw [readByte_writeMem hwf, if_neg hne, if_pos ⟨rfl, rfl⟩, byteOf_one_toNat]
  refine ⟨hlow, hhigh, fun k => ⟨fun hk => ?_, fun hw hk => ?_⟩⟩
  · rw [fetch8_writeMem, hk, hlow]
  · rw [fetch8_writeMem, hk, hhigh hw]

/-! ### Placing one byte where it is fetched from -/

/-- One byte of `placeBytes`: its address is made plain memory, and the byte is written there. -/
def placeByte (s : State) (k : Nat) (b : Byte) : State :=
  (if s.admits (s.fetchAddr k) then s
    else { s with memAdmit := ⟨(s.fetchAddr k).toNat, 1⟩ :: s.memAdmit }).writeByte (s.fetchAddr k) b

theorem placeBytes_cons (s : State) (k : Nat) (b : Byte) (bs : List Byte) :
    s.placeBytes k (b :: bs) = (placeByte s k b).placeBytes (k + 1) bs := rfl

/-- What placing keeps: every register, the admitted addresses, and the canonical form of memory. -/
structure Placed (s t : State) : Prop where
  registers : t = { s with memAdmit := t.memAdmit, mem := t.mem }
  admits : ∀ c, s.admits c = true → t.admits c = true
  canonical : s.mem.wf = true → t.mem.wf = true

theorem Placed.refl (s : State) : Placed s s := ⟨rfl, fun _ h => h, id⟩

theorem Placed.trans {s t u : State} (hst : Placed s t) (htu : Placed t u) : Placed s u where
  registers := by
    rw [htu.registers, hst.registers]
  admits c h := htu.admits c (hst.admits c h)
  canonical h := htu.canonical (hst.canonical h)

section
variable {s t : State} (h : Placed s t)
include h

theorem Placed.fetchAddr_eq (k : Nat) : t.fetchAddr k = s.fetchAddr k := by
  rw [h.registers]
  rfl

theorem Placed.cpu_eq : t.cpu = s.cpu := by
  rw [h.registers]

theorem Placed.width_eq : t.width = s.width := by
  rw [h.registers]
  rfl

theorem Placed.emulating_eq : t.emulating = s.emulating := by
  rw [h.registers]
  rfl

end

theorem placeByte_placed (s : State) (k : Nat) (b : Byte) : Placed s (placeByte s k b) := by
  unfold placeByte
  split
  · exact ⟨rfl, fun _ h => h, fun h => State.writeByte_wf h _ _⟩
  · refine ⟨rfl, fun c h => ?_, fun h => State.writeByte_wf (s := { s with memAdmit := _ }) h _ _⟩
    simp only [State.admits, State.writeByte_admit, List.any_cons, Bool.or_eq_true]
    exact .inr h

theorem placeByte_admits (s : State) (k : Nat) (b : Byte) : (placeByte s k b).admits (s.fetchAddr k) = true := by
  unfold placeByte
  split
  · next h => exact h
  · simp [State.admits, Region.holds]

theorem placeByte_read_other (s : State) (k : Nat) (b : Byte) {c : Addr} (hc : c ≠ s.fetchAddr k) :
    (placeByte s k b).readByte c = s.readByte c := by
  unfold placeByte
  rw [State.readByte_writeByte_other _ _ hc]
  split <;> rfl

theorem placeByte_read_same {s : State} (h : s.mem.wf = true) (k : Nat) (b : Byte) :
    (placeByte s k b).readByte (s.fetchAddr k) = b := by
  unfold placeByte
  apply State.readByte_writeByte_same
  split <;> exact h

/-! ### Placing bytes -/

/-- Fetch addresses at different offsets differ, up to a whole bank (R61). -/
theorem fetchAddr_inj (s : State) {j k : Nat} (hj : j < 2 ^ 16) (hk : k < 2 ^ 16)
    (h : s.fetchAddr j = s.fetchAddr k) : j = k := by
  have hoff : ∀ n, (s.fetchAddr n).setWidth 16 = s.pc + BitVec.ofNat 16 n := fun n => by
    apply BitVec.eq_of_getLsbD_eq
    intro l hl
    rw [State.fetchAddr, BitVec.getLsbD_setWidth, BitVec.getLsbD_append]
    simp [hl]
  have hsum : s.pc + BitVec.ofNat 16 j = s.pc + BitVec.ofNat 16 k := by
    rw [← hoff, ← hoff, h]
  have hnat := congrArg BitVec.toNat (BitVec.add_right_inj s.pc |>.1 hsum)
  simpa only [BitVec.toNat_ofNat, Nat.mod_eq_of_lt hj, Nat.mod_eq_of_lt hk] using hnat

theorem placeBytes_placed (bs : List Byte) (s : State) (k : Nat) : Placed s (s.placeBytes k bs) := by
  induction bs generalizing s k with
  | nil => exact Placed.refl s
  | cons b bs ih =>
    rw [placeBytes_cons]
    exact (placeByte_placed s k b).trans (ih _ _)

theorem placeBytes_read_other (bs : List Byte) (s : State) (k : Nat) {c : Addr}
    (hc : ∀ j, j < bs.length → c ≠ s.fetchAddr (k + j)) : (s.placeBytes k bs).readByte c = s.readByte c := by
  induction bs generalizing s k with
  | nil => rfl
  | cons b bs ih =>
    have hb := placeByte_placed s k b
    rw [placeBytes_cons, ih _ _ fun j hj => ?_, placeByte_read_other s k b (hc 0 (Nat.succ_pos _))]
    rw [hb.fetchAddr_eq, Nat.add_assoc, Nat.add_comm 1 j]
    exact hc (j + 1) (Nat.succ_lt_succ hj)

/-- A placed byte is fetched at its offset, from plain memory. -/
theorem placeBytes_fetch (bs : List Byte) (s : State) (k : Nat) (hlen : k + bs.length ≤ 2 ^ 16) (hwf : s.mem.wf = true)
    {j : Nat} (hj : j < bs.length) :
    (s.placeBytes k bs).admits (s.fetchAddr (k + j)) = true
      ∧ (s.placeBytes k bs).readByte (s.fetchAddr (k + j)) = bs[j] := by
  induction bs generalizing s k j with
  | nil => exact absurd hj (Nat.not_lt_zero j)
  | cons b bs ih =>
    have hb := placeByte_placed s k b
    have hbs := placeBytes_placed bs (placeByte s k b) (k + 1)
    rw [List.length_cons] at hlen
    rw [placeBytes_cons]
    cases j with
    | zero =>
      refine ⟨hbs.admits _ (placeByte_admits s k b), ?_⟩
      rw [placeBytes_read_other, Nat.add_zero, placeByte_read_same hwf, List.getElem_cons_zero]
      intro j' hj' heq
      rw [hb.fetchAddr_eq] at heq
      have := fetchAddr_inj s (by omega) (by omega) heq
      omega
    | succ j =>
      have hj' : j < bs.length := Nat.lt_of_succ_lt_succ hj
      have hrec := ih (placeByte s k b) (k + 1) (by omega) (hb.canonical hwf) hj'
      rwa [hb.fetchAddr_eq, Nat.add_assoc, Nat.add_comm 1 j] at hrec

/-! ### The host's interface -/

/-- The bytes of a table word are fetched in order after they are placed. -/
theorem fetchWindow_withFetchWord {s : State} (hwf : s.mem.wf = true) (nbits word : Nat) :
    (s.withFetchWord nbits word).fetchWindow = tableBytes nbits word := by
  have hfetch : ∀ k, (hk : k < (tableBytes nbits word).length) →
      (s.withFetchWord nbits word).fetch8 k = (tableBytes nbits word)[k] := fun k hk => by
    obtain ⟨-, hread⟩ := placeBytes_fetch (tableBytes nbits word) s 0 (by simp [tableBytes]) hwf hk
    rw [Nat.zero_add] at hread
    rw [State.fetch8, State.withFetchWord, (placeBytes_placed _ s 0).fetchAddr_eq, hread]
  rw [State.fetchWindow, hfetch 0 (by simp [tableBytes]), hfetch 1 (by simp [tableBytes]),
    hfetch 2 (by simp [tableBytes]), hfetch 3 (by simp [tableBytes])]
  rfl

theorem decodeTableWord_eq_some {nbits word : Nat} {i : Instr} (h : decodeTableWord nbits word = some i) :
    ∃ rest, decode .w8 (tableBytes nbits word) = .ok (i, rest) := by
  unfold decodeTableWord at h
  split at h
  · next j rest hd =>
    cases h
    exact ⟨rest, hd⟩
  · cases h

/-- Settles O10: the placed bytes are the fetch window, in plain memory, so the step runs what they decode to (O7). -/
theorem placedTableWordIsTheNextInstructionRun : Obligations.PlacedTableWordIsTheNextInstructionRun := by
  intro s nbits word i hi hw he hwf hc
  have hp : Placed s (s.withFetchWord nbits word) := placeBytes_placed (tableBytes nbits word) s 0
  have hwidth : (s.withFetchWord nbits word).width = .w8 := hp.width_eq.trans hw
  obtain ⟨rest, hd⟩ := decodeTableWord_eq_some hi
  refine stepRunsTheDecodedInstruction _ i rest (hp.emulating_eq.trans he) ?_ (hp.cpu_eq ▸ hc) fun k hk => ?_
  · rw [hwidth, fetchWindow_withFetchWord hwf, hd]
  · have hk4 : k < (tableBytes nbits word).length := Nat.lt_of_lt_of_le hk (length_le_four _ i)
    obtain ⟨hadmit, -⟩ := placeBytes_fetch (tableBytes nbits word) s 0 (by simp [tableBytes]) hwf hk4
    rw [Nat.zero_add] at hadmit
    rw [hp.fetchAddr_eq]
    exact hadmit

end Sys2Proof.Stores
end

section
/-! What no step observes: three bits of `P`, the high byte of `A` at W = 8, and the bytes outside plain memory. Each is
proved by running the instruction on two states that differ there and comparing its one store and its `P`. -/

open Sys2Proof Sys2Proof.Machine Sys2Proof.Flags Sys2Proof.Frame Sys2Proof.Stores Sys2Proof.Outcomes Sys2Proof.RoundTrip

namespace Sys2Proof.Noninterference

/-! ### The bits d, i and x of `P` -/

theorem putBit_self (p : Byte) {k : Nat} (hk : k < 8) : putBit p k (p.getLsbD k) = p := by
  apply BitVec.eq_of_getLsbD_eq
  intro j hj
  rw [putBit_getLsbD _ _ _ _ hk]
  split
  · next h => rw [h]
  · rfl

theorem setBit_self (s : State) {k : Nat} (hk : k < 8) : setBit s k (s.p.getLsbD k) = s := by
  simp only [setBit, putBit_self s.p hk]

/-- Two states equal but for bit `k` of `P` are equal when that bit is. -/
theorem eq_of_sameBut {k : Nat} {s s' : State} (h : SameBut k s s') (hk : k < 8)
    (hbit : s'.p.getLsbD k = s.p.getLsbD k) : s' = s := calc
  s' = setBit s' k (s'.p.getLsbD k) := (setBit_self s' hk).symm
  _ = setBit s k (s.p.getLsbD k) := hbit ▸ h (s'.p.getLsbD k)
  _ = s := setBit_self s hk

/-- The fetch reads no bit of `P` but m. -/
theorem fetchInstr_of_sameBut {k : Nat} {s s' : State} (h : SameBut k s s') (hk : k < 8) (hm : k ≠ 5) :
    fetchInstr s' = fetchInstr s :=
  h.eq_of fetchInstr fun u c => by
    have hw : (setBit u k c).width = u.width := (sameBut_setBit u hk c).width_eq hk hm
    unfold fetchInstr
    rw [hw]
    rfl

/-- Settles O49: the end states differ in bit `k` at most (`SameBut.exec`), and each has that bit as it was before. -/
theorem theBitsDIXOfPAreNeverRead : Obligations.TheBitsDIXOfPAreNeverRead := by
  intro s t k b hk ht
  have h8 : k < 8 := by omega
  have hs : SameBut k s (setBit s k b) := sameBut_setBit s h8 b
  obtain ⟨i, hf, hx⟩ := (step_eq_next s t).1 ht
  obtain ⟨t', hx', hsame⟩ := hs.exec h8 (by omega) (fun h0 => absurd h0 (by omega)) hx
  have hf' : fetchInstr (setBit s k b) = .ok i := (fetchInstr_of_sameBut hs h8 (by omega)).trans hf
  have hbit : t'.p.getLsbD k = b := by
    obtain ⟨-, rfl⟩ := (exec_eq_next i (setBit s k b) t').1 hx'
    have hmid := operate_flagsMiddle (setBit s k b).width i.operand (setBit s k b) i.mnemonic
    exact (p_getLsbD_of_flagsMiddle hmid (by omega) (by omega)).trans
      ((putBit_getLsbD s.p k b k h8).trans (if_pos rfl))
  have hself : setBit t' k b = t' := hbit ▸ setBit_self t' h8
  have hstep := (step_eq_next (setBit s k b) t').2 ⟨i, hf', hx'⟩
  rw [← hself, hsame b] at hstep
  exact hstep

/-! ### What the effect depends on -/

section
variable {w : Width} {o : Operand} {s s' : State} (hp : s'.p = s.p) (hacc : s'.acc w = s.acc w)
  (hop : readOp w o s' = readOp w o s)
include hp hacc hop

theorem valueIn_congr (mn : Mnemonic) : valueIn w o s' mn = valueIn w o s mn := by
  simp only [valueIn, hacc, hop, State.flagC, hp]

/-- `P` after a mnemonic depends on `P`, `AccW` and the operand before it. -/
theorem operate_p_congr (mn : Mnemonic) : (operate w o s' mn).p = (operate w o s mn).p := by
  cases mn with
  | AND | EOR | ORA => simp [operate, accEffect, State.flagsNZ, hp, hacc, hop]
  | BIT =>
    simp only [operate, bitEffect]
    split
    · simp [State.flagZTest, hp, hacc, hop]
    · simp [State.flagZTest, State.flagsTopBits, hp, hacc, hop]
  | ASL | LSR => simp [operate, shiftEffect, State.flagsNZ, writeOp_p, hp, hop]
  | ROL | ROR => simp [operate, shiftEffect, State.flagsNZ, writeOp_p, State.flagC, hp, hop]
  | TRB | TSB => simp [operate, testEffect, State.flagZTest, writeOp_p, hp, hacc, hop]

end

/-! ### The high byte of `A` -/

/-- The state with another high byte of `A`. -/
def setHigh (h : Byte) (s : State) : State := { s with a := h ++ s.a.setWidth 8 }

theorem setWidth_append_byte (h v : Byte) : (h ++ v : Word).setWidth 8 = v := by
  apply BitVec.eq_of_getLsbD_eq
  intro j hj
  rw [BitVec.getLsbD_setWidth, BitVec.getLsbD_append]
  simp [hj]

theorem extract_high_append (h v : Byte) : (h ++ v : Word).extractLsb' 8 8 = h := by
  apply BitVec.eq_of_getLsbD_eq
  intro j hj
  rw [BitVec.getLsbD_extractLsb', BitVec.getLsbD_append]
  simp [hj]

section
variable (h : Byte) (s : State)

theorem acc_setHigh : (setHigh h s).acc .w8 = s.acc .w8 := setWidth_append_byte h _

theorem setAcc_setHigh (v : BitVec 8) : (setHigh h s).setAcc .w8 v = setHigh h (s.setAcc .w8 v) := by
  simp only [State.setAcc, setHigh, extract_high_append, setWidth_append_byte]

theorem readOp_setHigh (o : Operand) : readOp .w8 o (setHigh h s) = readOp .w8 o s := by
  cases o with
  | acc => exact acc_setHigh h s
  | imm k => rfl
  | mem m => rfl

theorem writeOp_setHigh (o : Operand) (v : BitVec 8) :
    writeOp .w8 o v (setHigh h s) = setHigh h (writeOp .w8 o v s) := by
  cases o with
  | acc => exact setAcc_setHigh h s v
  | imm k => rfl
  | mem m => rfl

theorem store_setHigh (o : Operand) (v : BitVec 8) (mn : Mnemonic) :
    store .w8 o v (setHigh h s) mn = setHigh h (store .w8 o v s mn) := by
  cases mn with
  | AND | EOR | ORA => exact setAcc_setHigh h s v
  | BIT => rfl
  | ASL | LSR | ROL | ROR | TRB | TSB => exact writeOp_setHigh h s o v

theorem operate_setHigh (o : Operand) (mn : Mnemonic) :
    operate .w8 o (setHigh h s) mn = setHigh h (operate .w8 o s mn) := by
  have hval := valueIn_congr (s := s) (s' := setHigh h s) rfl (acc_setHigh h s) (readOp_setHigh h s o) mn
  have hp := operate_p_congr (s := s) (s' := setHigh h s) rfl (acc_setHigh h s) (readOp_setHigh h s o) mn
  calc operate .w8 o (setHigh h s) mn
    _ = { store .w8 o (valueIn .w8 o (setHigh h s) mn) (setHigh h s) mn with
          p := (operate .w8 o (setHigh h s) mn).p } := operate_eq_store _ _ _ _
    _ = setHigh h { store .w8 o (valueIn .w8 o s mn) s mn with p := (operate .w8 o s mn).p } := by
      rw [hval, hp, store_setHigh]
      rfl
    _ = setHigh h (operate .w8 o s mn) := congrArg (setHigh h) (operate_eq_store _ _ _ _).symm

theorem touched_setHigh (i : Instr) : Claims.touched i (setHigh h s) = Claims.touched i s := by
  have hread : ∀ w o, readAddrs w o (setHigh h s) = readAddrs w o s := fun w o => by cases o <;> rfl
  have hmodify : ∀ w o, modifyAddrs w o (setHigh h s) = modifyAddrs w o s := fun w o => by cases o <;> rfl
  have hwidth : (setHigh h s).width = s.width := rfl
  simp only [Claims.touched, hread, hmodify, hwidth]

end

/-- Settles O48: the guard does not look at `A`, and the effect at W = 8 passes over its high byte. -/
theorem theHighByteOfAIsNeitherReadNorChangedAtWidth8 :
    Obligations.TheHighByteOfAIsNeitherReadNorChangedAtWidth8 := by
  intro i s t h hw ht
  obtain ⟨⟨he, hc, ha⟩, rfl⟩ := (exec_eq_next i s t).1 ht
  refine (exec_eq_next i (setHigh h s) _).2 ⟨⟨he, hc, ?_⟩, ?_⟩
  · rw [touched_setHigh]
    exact ha
  · have hw' : (setHigh h s).width = .w8 := hw
    rw [hw, hw', effect, effect, operate_setHigh]
    rfl

/-! ### What addresses and operands depend on in memory -/

/-- The state with another memory. -/
def withMem (s : State) (mem : Memory) : State := { s with mem := mem }

section
variable {s : State} {mem : Memory}

theorem ptr16_congr {p : Word} (h : ∀ b ∈ ptrAddrs16 p, (withMem s mem).readByte b = s.readByte b) :
    ptr16 (withMem s mem) p = ptr16 s p := by
  simp only [ptr16, h (bank0 p) (by simp [ptrAddrs16]), h (bank0 (p + 1)) (by simp [ptrAddrs16])]

theorem ptr24_congr {p : Word} (h : ∀ b ∈ ptrAddrs24 p, (withMem s mem).readByte b = s.readByte b) :
    ptr24 (withMem s mem) p = ptr24 s p := by
  simp only [ptr24, h (bank0 p) (by simp [ptrAddrs24]), h (bank0 (p + 1)) (by simp [ptrAddrs24]),
    h (bank0 (p + 2)) (by simp [ptrAddrs24])]

theorem ptr16Zp_congr {p : Byte} (h : ∀ b ∈ ptrAddrsZp p, (withMem s mem).readByte b = s.readByte b) :
    ptr16Zp (withMem s mem) p = ptr16Zp s p := by
  simp only [ptr16Zp, h (p.setWidth 24) (by simp [ptrAddrsZp]), h ((p + 1).setWidth 24) (by simp [ptrAddrsZp])]

theorem ea816_congr (m : MemOperand)
    (h : ∀ b ∈ pointerAddrs816 s m, (withMem s mem).readByte b = s.readByte b) :
    ea816 (withMem s mem) m = ea816 s m := by
  cases m with
  | abs | long | dp | absX | longX | absY | dpX | sr => rfl
  | dpInd | dpXInd => exact congrArg (fun q => EA.far (s.dbr ++ q)) (ptr16_congr h)
  | dpIndY | srIndY => exact congrArg (fun q => EA.far ((s.dbr ++ q) + s.y.setWidth 24)) (ptr16_congr h)
  | dpIndL => exact congrArg EA.far (ptr24_congr h)
  | dpIndLY => exact congrArg (fun q => EA.far (q + s.y.setWidth 24)) (ptr24_congr h)

theorem ea8_congr (m : MemOperand)
    (h : ∀ p, pointerZp s m = some p → ∀ b ∈ ptrAddrsZp p, (withMem s mem).readByte b = s.readByte b) :
    ea8 (withMem s mem) m = ea8 s m := by
  cases m with
  | abs | long | dp | dpIndL | absX | longX | absY | dpX | dpIndLY | sr | srIndY => rfl
  | dpInd | dpXInd => exact ptr16Zp_congr (h _ rfl)
  | dpIndY => exact congrArg (fun q => q + (index8 s.y).setWidth 16) (ptr16Zp_congr (h _ rfl))

/-- Effective addresses depend on memory through the bytes of the pointer alone (R84). -/
theorem ea_congr (m : MemOperand) (h : ∀ b ∈ pointerAddrs s m, (withMem s mem).readByte b = s.readByte b) :
    ea (withMem s mem) m = ea s m := by
  have hcpu : (withMem s mem).cpu = s.cpu := rfl
  simp only [ea, pointerAddrs, hcpu] at h ⊢
  by_cases hc : s.cpu = .cpu65816
  · rw [if_pos hc] at h ⊢
    rw [if_pos hc, ea816_congr m h]
  · rw [if_neg hc] at h ⊢
    rw [if_neg hc, ea8_congr m fun p hp b hb => h b (by simpa only [hp] using hb)]

theorem readMem_congr {e : EA} {w : Width} (h : ∀ b ∈ e.reads w, (withMem s mem).readByte b = s.readByte b) :
    readMem (withMem s mem) e w = readMem s e w := by
  cases w with
  | w8 => exact h e.ea0 (by simp [EA.reads])
  | w16 => simp only [readMem, h e.ea0 (by simp [EA.reads]), h e.ea1 (by simp [EA.reads])]

/-- An operand depends on memory through the addresses that reading it touches (R43). -/
theorem readOp_congr {w : Width} {o : Operand}
    (h : ∀ b ∈ readAddrs w o s, (withMem s mem).readByte b = s.readByte b) :
    readOp w o (withMem s mem) = readOp w o s := by
  cases o with
  | acc => rfl
  | imm k => rfl
  | mem m =>
    have hea : ea (withMem s mem) m = ea s m := ea_congr m fun b hb => h b (List.mem_append_left _ hb)
    simp only [readOp, hea]
    exact readMem_congr fun b hb => h b (List.mem_append_right _ hb)

end

/-! ### What an instruction touches -/

theorem readAddrs_subset_touched {i : Instr} {s : State} {b : Addr} (h : b ∈ readAddrs s.width i.operand s) :
    b ∈ Claims.touched i s := by
  unfold Claims.touched
  split
  · exact h
  · cases ho : i.operand with
    | acc => simp [ho, readAddrs] at h
    | imm k => simp [ho, readAddrs] at h
    | mem m =>
      rw [ho] at h
      exact List.mem_append_left _ h

theorem storedAddrs_subset_touched {i : Instr} {s : State} {b : Addr} (h : b ∈ Claims.storedAddrs i s) :
    b ∈ Claims.touched i s := by
  unfold Claims.storedAddrs at h
  split at h
  · next m ho =>
    split at h
    · cases h
    · next hr =>
      rw [Claims.touched, if_neg hr, ho]
      exact List.mem_append_right _ h
  · cases h
  · cases h

/-! ### Two states equal but for one byte of memory -/

/-- Equal registers, and equal bytes at every address but `a`. -/
structure SameOff (a : Addr) (s s' : State) : Prop where
  registers : s' = withMem s s'.mem
  bytes : ∀ b, b ≠ a → s'.readByte b = s.readByte b

theorem sameOff_writeByte (s : State) (a : Addr) (v : Byte) : SameOff a s (s.writeByte a v) :=
  ⟨rfl, fun _ hb => State.readByte_writeByte_other s v hb⟩

section
variable {a : Addr} {s s' : State} (h : SameOff a s s')
include h

/-- On a state it is ready in, an instruction finds the same effective address and the same operand in both. -/
theorem SameOff.operands {i : Instr} (ha : s.admits a = false) (hr : Claims.Ready i s (Claims.touched i s)) :
    (∀ m, i.operand = .mem m → ea s' m = ea s m)
      ∧ readOp s.width i.operand s' = readOp s.width i.operand s := by
  obtain ⟨-, -, hadmit⟩ := hr
  have hread : ∀ b ∈ readAddrs s.width i.operand s, (withMem s s'.mem).readByte b = s.readByte b := fun b hb => by
    rw [← h.registers]
    refine h.bytes b ?_
    rintro rfl
    exact absurd (hadmit b (readAddrs_subset_touched hb)) (by simp [ha])
  rw [h.registers]
  refine ⟨fun m hm => ea_congr m fun b hb => hread b ?_, readOp_congr hread⟩
  rw [hm]
  exact List.mem_append_left _ hb

theorem SameOff.touched_eq {i : Instr} (hea : ∀ m, i.operand = .mem m → ea s' m = ea s m) :
    Claims.touched i s' = Claims.touched i s := by
  have hw : s'.width = s.width := by
    rw [h.registers]
    rfl
  have hptr : ∀ m, pointerAddrs s' m = pointerAddrs s m := fun m => by
    rw [h.registers]
    rfl
  unfold Claims.touched
  rw [hw]
  cases ho : i.operand with
  | acc | imm k => rfl
  | mem m => simp only [readAddrs, modifyAddrs, hptr m, hea m ho]

theorem SameOff.setAcc_congr (w : Width) (v : BitVec w.bits) : SameOff a (s.setAcc w v) (s'.setAcc w v) where
  registers := by
    rw [h.registers]
    cases w <;> rfl
  bytes b hb := by
    simp only [State.readByte, State.setAcc_mem]
    exact h.bytes b hb

theorem SameOff.writeMem_congr (hs : s.mem.wf = true) (hs' : s'.mem.wf = true) (e : EA) (w : Width)
    (v : BitVec w.bits) : SameOff a (writeMem s e w v) (writeMem s' e w v) where
  registers := by
    rw [h.registers]
    cases w <;> rfl
  bytes b hb := by
    rw [readByte_writeMem hs, readByte_writeMem hs', h.bytes b hb]

theorem SameOff.writeOp_congr (hs : s.mem.wf = true) (hs' : s'.mem.wf = true) (w : Width) {o : Operand}
    (hea : ∀ m, o = .mem m → ea s' m = ea s m) (v : BitVec w.bits) :
    SameOff a (writeOp w o v s) (writeOp w o v s') := by
  cases o with
  | acc => exact h.setAcc_congr w v
  | imm k => exact h
  | mem m =>
    simp only [writeOp, hea m rfl]
    exact h.writeMem_congr hs hs' _ w v

theorem SameOff.store_congr (hs : s.mem.wf = true) (hs' : s'.mem.wf = true) (w : Width) {o : Operand}
    (hea : ∀ m, o = .mem m → ea s' m = ea s m) (v : BitVec w.bits) (mn : Mnemonic) :
    SameOff a (store w o v s mn) (store w o v s' mn) := by
  cases mn with
  | AND | EOR | ORA => exact h.setAcc_congr w v
  | BIT => exact h
  | ASL | LSR | ROL | ROR | TRB | TSB => exact h.writeOp_congr hs hs' w hea v

theorem SameOff.operate_congr (hs : s.mem.wf = true) (hs' : s'.mem.wf = true) (w : Width) {o : Operand}
    (hea : ∀ m, o = .mem m → ea s' m = ea s m) (hop : readOp w o s' = readOp w o s) (mn : Mnemonic) :
    SameOff a (operate w o s mn) (operate w o s' mn) := by
  have hp : s'.p = s.p := (congrArg State.p h.registers).trans rfl
  have hacc : s'.acc w = s.acc w := (congrArg (fun u => State.acc u w) h.registers).trans rfl
  have hst := h.store_congr hs hs' w hea (valueIn w o s mn) mn
  have heq' : operate w o s' mn = { store w o (valueIn w o s mn) s' mn with p := (operate w o s mn).p } := by
    conv_lhs => rw [operate_eq_store, valueIn_congr hp hacc hop, operate_p_congr hp hacc hop]
  rw [heq', operate_eq_store w o s mn]
  refine ⟨?_, fun b hb => hst.bytes b hb⟩
  exact congrArg (fun u : State => { u with p := (operate w o s mn).p }) hst.registers

/-- An instruction that is ready in one of the two states is ready in the other, and its effects are equal but for the
same byte. -/
theorem SameOff.effect_congr (hs : s.mem.wf = true) (hs' : s'.mem.wf = true) (ha : s.admits a = false) {i : Instr}
    (hr : Claims.Ready i s (Claims.touched i s)) :
    Claims.Ready i s' (Claims.touched i s') ∧ SameOff a (effect s.width i s) (effect s'.width i s') := by
  obtain ⟨hea, hop⟩ := h.operands ha hr
  have hw : s'.width = s.width := (congrArg State.width h.registers).trans rfl
  have hadv := h.operate_congr hs hs' s.width hea hop i.mnemonic
  refine ⟨?_, ?_⟩
  · rw [h.touched_eq hea, h.registers]
    exact hr
  · rw [hw, effect, effect]
    exact ⟨congrArg (fun u => State.advance u (i.length s.width)) hadv.registers, hadv.bytes⟩

end

/-- A step of `s` fetches the same instruction from the state with another byte at an address that is not plain memory:
the bytes of the instruction are plain memory, and what follows them does not matter (O8). -/
theorem step_writeByte_eq_exec {s : State} {i : Instr} {a : Addr} (ha : s.admits a = false)
    (hf : fetchInstr s = .ok i) (v : Byte) : step (s.writeByte a v) = exec i (s.writeByte a v) := by
  obtain ⟨he, -, ⟨rest, hd⟩, hc, hk⟩ := (fetchInstr_eq_ok s i).1 hf
  obtain ⟨hwf, hbytes⟩ := encodeOfDecodeIsTheBytes _ _ _ _ hd
  refine stepRunsTheEncodedInstruction (s.writeByte a v) i he hc hwf fun k hlen => ⟨hk k hlen, ?_⟩
  have hlen' : k < (encode s.width i).length := by
    rw [encode_length]
    exact hlen
  have hne : s.fetchAddr k ≠ a := by
    intro heq
    exact absurd (hk k hlen) (by simp [heq, ha])
  have hfetch : (s.writeByte a v).fetch8 k = s.fetch8 k := State.readByte_writeByte_other s v hne
  calc (encode s.width i)[k]?
    _ = (s.fetchWindow.take (i.length s.width))[k]? := by
      rw [← hbytes, ← encode_length, List.take_left']
      rfl
    _ = some (s.fetch8 k) := getElem?_take_fetchWindow hlen (length_le_four _ i)
    _ = some ((s.writeByte a v).fetch8 k) := by rw [hfetch]

/-- Settles O50: the same instruction is fetched, its effects are equal but for the byte at `a`, and neither effect
stores there, because every address it touches is plain memory. -/
theorem bytesOutsidePlainMemoryAreNeverObserved : Obligations.BytesOutsidePlainMemoryAreNeverObserved := by
  intro s t a v hwf ha ht
  obtain ⟨i, hr, hf, rfl⟩ := step_next_effect ht
  have hwf' := State.writeByte_wf hwf a v
  obtain ⟨hr', hsame⟩ := (sameOff_writeByte s a v).effect_congr hwf hwf' ha hr
  have hkept : ∀ u : State, u.admits a = false → Claims.Ready i u (Claims.touched i u) →
      (effect u.width i u).readByte a = u.readByte a := by
    rintro u hu ⟨-, -, hadmit⟩
    refine effect_sameBytesOutside i u a fun hmem => ?_
    exact absurd (hadmit a (storedAddrs_subset_touched hmem)) (by simp [hu])
  refine ⟨effect (s.writeByte a v).width i (s.writeByte a v), ?_, ?_, ?_, hkept s ha hr, hsame.bytes⟩
  · rw [step_writeByte_eq_exec ha hf v]
    exact (exec_eq_next _ _ _).2 ⟨hr', rfl⟩
  · rw [hsame.registers]
    rfl
  · rw [hkept (s.writeByte a v) ha hr', State.readByte_writeByte_same hwf]

end Sys2Proof.Noninterference
end

section
/-! The families of instructions (spec files 41 to 46): completion, result, flags and frame. The result is `valueIn`,
the place is `store`, the frame is that of every effect; what is left to each family is its flags and its bits. -/

open Sys2Proof Sys2Proof.Machine Sys2Proof.Flags Sys2Proof.Frame

namespace Sys2Proof.Families

/-! ### n and z -/

@[simp] theorem writeOp_flagN (w : Width) (o : Operand) (v : BitVec w.bits) (s : State) :
    (writeOp w o v s).flagN = s.flagN := congrArg (fun p => p.getLsbD 7) (writeOp_p w o v s)

/-- n after an instruction: bit MSB of its result, or of the operand of BIT on memory, or the old n (R21). -/
theorem effect_flagN (w : Width) (i : Instr) (s : State) :
    (effect w i s).flagN =
      if i.mnemonic ∈ [Mnemonic.TRB, .TSB] ∨ i.mnemonic = .BIT ∧ i.operand.mode = .IMM then s.flagN
      else (valueIn w i.operand s i.mnemonic).msb := by
  rw [effect, State.advance_flagN]
  cases i.mnemonic with
  | AND | EOR | ORA => simp [operate, accEffect, State.flagsNZ, valueIn, newValue]
  | BIT =>
    by_cases hm : i.operand.mode = .IMM
    · simp [operate, bitEffect, State.flagZTest, hm]
    · simp [operate, bitEffect, State.flagZTest, State.flagsTopBits, valueIn, newValue, hm]
  | ASL | LSR | ROL | ROR => simp [operate, shiftEffect, State.flagsNZ, valueIn, newValue]
  | TRB | TSB => simp [operate, testEffect, State.flagZTest]

/-- z after an instruction: its result is 0, or the test of BIT, TRB and TSB is (R23). -/
theorem effect_flagZ (w : Width) (i : Instr) (s : State) :
    (effect w i s).flagZ =
      if i.mnemonic ∈ [Mnemonic.BIT, .TRB, .TSB] then (s.acc w &&& readOp w i.operand s) == 0
      else valueIn w i.operand s i.mnemonic == 0 := by
  rw [effect, State.advance_flagZ]
  cases i.mnemonic with
  | AND | EOR | ORA => simp [operate, accEffect, State.flagsNZ, valueIn, newValue]
  | BIT =>
    simp only [operate, bitEffect]
    split <;> simp [State.flagZTest]
  | ASL | LSR | ROL | ROR => simp [operate, shiftEffect, State.flagsNZ, valueIn, newValue]
  | TRB | TSB => simp [operate, testEffect, State.flagZTest]

/-- n and z follow the value where z is no test (R120, R150, R170, R190). -/
theorem effect_flagsNZ {i : Instr} (w : Width) (s : State) (h : i.mnemonic ∉ [Mnemonic.BIT, .TRB, .TSB]) :
    (effect w i s).flagN = (valueIn w i.operand s i.mnemonic).getLsbD w.msb
      ∧ ((effect w i s).flagZ = true ↔ valueIn w i.operand s i.mnemonic = 0) := by
  refine ⟨?_, by rw [effect_flagZ, if_neg h, beq_iff_eq]⟩
  rw [effect_flagN, if_neg, BitVec.msb_eq_getLsbD_last]
  rintro (htest | ⟨hbit, -⟩)
  · exact h (List.mem_cons_of_mem _ htest)
  · exact h (hbit ▸ List.mem_cons_self)

theorem effect_flagV_of_ne {i : Instr} (w : Width) (s : State) (h : i.mnemonic ≠ .BIT) :
    (effect w i s).flagV = s.flagV := by
  rw [effect_flagV, if_neg fun hbit => h hbit.1]

theorem effect_flagC_of_not_shift {i : Instr} (w : Width) (s : State)
    (h : i.mnemonic ∉ [Mnemonic.ASL, .LSR, .ROL, .ROR]) : (effect w i s).flagC = s.flagC := by
  simp only [List.mem_cons, List.not_mem_nil, or_false, not_or] at h
  obtain ⟨hasl, hlsr, hrol, hror⟩ := h
  rw [effect_flagC, if_neg (not_or.2 ⟨hasl, hrol⟩), if_neg (not_or.2 ⟨hlsr, hror⟩)]

/-- A value is 0 when none of its bits is set. -/
theorem eq_zero_iff_getLsbD {n : Nat} (v : BitVec n) : v = 0 ↔ ∀ j, j < n → v.getLsbD j = false := by
  constructor
  · rintro rfl j -
    exact BitVec.getLsbD_zero
  · intro h
    exact BitVec.eq_of_getLsbD_eq fun j hj => (h j hj).trans BitVec.getLsbD_zero.symm

/-- z of the test, bit by bit: no bit below W is set in both. -/
theorem flagZ_test_iff {i : Instr} (s : State) (h : i.mnemonic ∈ [Mnemonic.BIT, .TRB, .TSB]) :
    (effect s.width i s).flagZ = true ↔
      ∀ j, j < s.width.bits → (s.a.getLsbD j && (readOp s.width i.operand s).getLsbD j) = false := by
  rw [effect_flagZ, if_pos h, beq_iff_eq, eq_zero_iff_getLsbD]
  refine forall_congr' fun j => imp_congr_right fun hj => ?_
  rw [BitVec.getLsbD_and, State.acc, BitVec.getLsbD_setWidth]
  simp only [hj, decide_true, Bool.true_and]

/-! ### Completion, and the accumulator -/

theorem exec_of_ready {i : Instr} {s : State} (h : Claims.Ready i s (Claims.touched i s)) :
    exec i s = .next (effect s.width i s) := (exec_eq_next i s _).2 ⟨h, rfl⟩

theorem touched_of_read {i : Instr} (s : State) (h : i.mnemonic ∈ [Mnemonic.AND, .EOR, .ORA, .BIT]) :
    Claims.touched i s = readAddrs s.width i.operand s := if_pos h

theorem touched_of_modify {i : Instr} (s : State) (h : i.mnemonic ∉ [Mnemonic.AND, .EOR, .ORA, .BIT]) :
    Claims.touched i s = modifyAddrs s.width i.operand s := if_neg h

/-- A property of the mnemonic of each form listed. -/
theorem mnemonic_of_mem {l : List Instr} {i : Instr} {mn : Mnemonic} (h : l.all (fun j => j.mnemonic == mn) = true)
    (hi : i ∈ l) : i.mnemonic = mn := by
  simpa using List.all_eq_true.1 h i hi

/-- `AccW` holds the value after AND, EOR and ORA (R11). -/
theorem acc_effect {i : Instr} (w : Width) (s : State) (h : i.mnemonic ∈ [Mnemonic.AND, .EOR, .ORA]) :
    (effect w i s).acc w = valueIn w i.operand s i.mnemonic := by
  have hstore : ∀ v, store w i.operand v s i.mnemonic = s.setAcc w v := by
    intro v
    cases hmn : i.mnemonic with
    | AND | EOR | ORA => rfl
    | BIT | ASL | LSR | ROL | ROR | TRB | TSB => simp [hmn] at h
  have ha := effect_a w i s
  rw [hstore] at ha
  exact (acc_of_a_eq ha w).trans (State.acc_setAcc s w _)

theorem acc_getLsbD (s : State) (w : Width) {j : Nat} (hj : j < w.bits) : (s.acc w).getLsbD j = s.a.getLsbD j := by
  simp [State.acc, hj]

/-! ### AND, EOR, ORA -/

/-- What the three mnemonics share: all but the bits of the value. -/
theorem accumulate_completes {i : Instr} {s : State} (h : i.mnemonic ∈ [Mnemonic.AND, .EOR, .ORA])
    (hr : Claims.Ready i s (readAddrs s.width i.operand s)) :
    ∃ t, exec i s = .next t
      ∧ (∀ j, j < s.width.bits → t.a.getLsbD j = (valueIn s.width i.operand s i.mnemonic).getLsbD j)
      ∧ (∀ j, s.width.bits ≤ j → t.a.getLsbD j = s.a.getLsbD j)
      ∧ t.flagN = t.a.getLsbD s.width.msb
      ∧ (t.flagZ = true ↔ ∀ j, j < s.width.bits → t.a.getLsbD j = false)
      ∧ t.flagV = s.flagV ∧ t.flagC = s.flagC
      ∧ Claims.Advanced i s t ∧ Claims.SameRest s t ∧ Claims.SameBytesOutside s t [] := by
  have hread : i.mnemonic ∈ [Mnemonic.AND, .EOR, .ORA, .BIT] :=
    (by decide : ∀ m ∈ [Mnemonic.AND, .EOR, .ORA], m ∈ [Mnemonic.AND, .EOR, .ORA, .BIT]) _ h
  have htest : i.mnemonic ∉ [Mnemonic.BIT, .TRB, .TSB] :=
    (by decide : ∀ m ∈ [Mnemonic.AND, .EOR, .ORA], m ∉ [Mnemonic.BIT, .TRB, .TSB]) _ h
  have hshift : i.mnemonic ∉ [Mnemonic.ASL, .LSR, .ROL, .ROR] :=
    (by decide : ∀ m ∈ [Mnemonic.AND, .EOR, .ORA], m ∉ [Mnemonic.ASL, .LSR, .ROL, .ROR]) _ h
  have hbits : ∀ j, j < s.width.bits →
      (effect s.width i s).a.getLsbD j = (valueIn s.width i.operand s i.mnemonic).getLsbD j := fun j hj => by
    rw [← acc_effect s.width s h, acc_getLsbD _ _ hj]
  obtain ⟨hn, hz⟩ := effect_flagsNZ s.width s htest
  refine ⟨effect s.width i s, exec_of_ready (touched_of_read s hread ▸ hr), hbits,
    fun j hj => effect_a_high s.width i s hj, ?_, ?_, effect_flagV_of_ne s.width s (List.ne_of_not_mem_cons htest),
    effect_flagC_of_not_shift s.width s hshift, effect_advanced i s, effect_sameRest s.width i s,
    storedAddrs_of_read s hread ▸ effect_sameBytesOutside i s⟩
  · rw [hn, hbits _ (Nat.sub_lt (bits_pos _) Nat.one_pos)]
  · rw [hz, eq_zero_iff_getLsbD]
    exact forall_congr' fun j => imp_congr_right fun hj => by rw [hbits j hj]

/-- Settles O11: the value of AND, bit by bit. -/
theorem andCompletesWithTheBitwiseAnd : Obligations.AndCompletesWithTheBitwiseAnd := by
  intro k a l b i s hi hr
  have hmn : i.mnemonic = .AND := mnemonic_of_mem rfl hi
  obtain ⟨t, ht, hbits, hrest⟩ := accumulate_completes (by simp [hmn]) hr
  refine ⟨t, ht, fun j hj => ?_, hrest⟩
  rw [hbits j hj, valueIn, hmn, newValue, BitVec.getLsbD_and, acc_getLsbD s _ hj]

/-- Settles O12: the value of EOR, bit by bit. -/
theorem eorCompletesWithTheBitwiseExclusiveOr : Obligations.EorCompletesWithTheBitwiseExclusiveOr := by
  intro k a l b i s hi hr
  have hmn : i.mnemonic = .EOR := mnemonic_of_mem rfl hi
  obtain ⟨t, ht, hbits, hrest⟩ := accumulate_completes (by simp [hmn]) hr
  refine ⟨t, ht, fun j hj => ?_, hrest⟩
  rw [hbits j hj, valueIn, hmn, newValue, BitVec.getLsbD_xor, acc_getLsbD s _ hj]

/-- Settles O13: the value of ORA, bit by bit. -/
theorem oraCompletesWithTheBitwiseOr : Obligations.OraCompletesWithTheBitwiseOr := by
  intro k a l b i s hi hr
  have hmn : i.mnemonic = .ORA := mnemonic_of_mem rfl hi
  obtain ⟨t, ht, hbits, hrest⟩ := accumulate_completes (by simp [hmn]) hr
  refine ⟨t, ht, fun j hj => ?_, hrest⟩
  rw [hbits j hj, valueIn, hmn, newValue, BitVec.getLsbD_or, acc_getLsbD s _ hj]

/-! ### BIT -/

/-- What BIT leaves alone: all but n, v and z. -/
theorem bit_frame {i : Instr} (s : State) (h : i.mnemonic = .BIT) :
    (effect s.width i s).flagC = s.flagC ∧ (effect s.width i s).a = s.a
    ∧ Claims.Advanced i s (effect s.width i s) ∧ Claims.SameRest s (effect s.width i s)
    ∧ Claims.SameBytesOutside s (effect s.width i s) [] := by
  have hstored : Claims.storedAddrs i s = [] := storedAddrs_of_read s (by simp [h])
  refine ⟨effect_flagC_of_not_shift s.width s (by simp [h]), ?_, effect_advanced i s, effect_sameRest s.width i s,
    hstored ▸ effect_sameBytesOutside i s⟩
  rw [effect_a, h]
  rfl

/-- Settles O14: n, v and z by their equations, the rest by `bit_frame`. -/
theorem bitOnMemoryCompletesAndWritesOnlyFlags : Obligations.BitOnMemoryCompletesAndWritesOnlyFlags := by
  intro a b i s hi hr
  have hmn : i.mnemonic = .BIT := mnemonic_of_mem rfl hi
  have hmode : i.operand.mode ≠ .IMM := by
    simp only [List.mem_cons, List.not_mem_nil, or_false] at hi
    rcases hi with rfl | rfl | rfl | rfl <;> simp [Instr.operand, Operand.mode]
  rw [← touched_of_read s (by simp [hmn])] at hr
  refine ⟨effect s.width i s, exec_of_ready hr, ?_, ?_, flagZ_test_iff s (by simp [hmn]), bit_frame s hmn⟩
  · rw [effect_flagN, if_neg (by simp [hmn, hmode]), valueIn, hmn, newValue, BitVec.msb_eq_getLsbD_last]
  · rw [effect_flagV, if_pos ⟨hmn, hmode⟩]

/-- Settles O15: with a constant n and v are the old ones, and z tests the constant's low W bits. -/
theorem bitImmediateCompletesAndWritesOnlyZ : Obligations.BitImmediateCompletesAndWritesOnlyZ := by
  intro k s hr
  refine ⟨effect s.width (.bitImm k) s, exec_of_ready hr, ?_, effect_flagN _ _ _, effect_flagV _ _ _, bit_frame s rfl⟩
  rw [flagZ_test_iff s (by simp [Instr.mnemonic])]
  refine forall_congr' fun j => imp_congr_right fun hj => ?_
  simp only [readOp, Instr.operand, BitVec.getLsbD_setWidth, hj, decide_true, Bool.true_and]

/-! ### ASL, LSR, ROL, ROR -/

/-- What the four mnemonics share: all but the bits of the value and the bit shifted out (R190). -/
theorem shift_completes {i : Instr} {s : State} (h : i.mnemonic ∈ [Mnemonic.ASL, .LSR, .ROL, .ROR])
    (hwf : s.mem.wf = true) (hr : Claims.Ready i s (modifyAddrs s.width i.operand s)) :
    exec i s = .next (effect s.width i s)
      ∧ Claims.operandAfter i.operand s (effect s.width i s) = valueIn s.width i.operand s i.mnemonic
      ∧ (effect s.width i s).flagN = (Claims.operandAfter i.operand s (effect s.width i s)).getLsbD s.width.msb
      ∧ ((effect s.width i s).flagZ = true ↔ Claims.operandAfter i.operand s (effect s.width i s) = 0)
      ∧ (effect s.width i s).flagV = s.flagV ∧ Claims.SameABut i.operand s (effect s.width i s)
      ∧ Claims.Advanced i s (effect s.width i s) ∧ Claims.SameRest s (effect s.width i s)
      ∧ Claims.SameBytesOutside s (effect s.width i s) (Claims.storedAddrs i s) := by
  have hmodify : i.mnemonic ∉ [Mnemonic.AND, .EOR, .ORA, .BIT] :=
    (by decide : ∀ m ∈ [Mnemonic.ASL, .LSR, .ROL, .ROR], m ∉ [Mnemonic.AND, .EOR, .ORA, .BIT]) _ h
  have hacc : i.mnemonic ∉ [Mnemonic.AND, .EOR, .ORA] :=
    (by decide : ∀ m ∈ [Mnemonic.ASL, .LSR, .ROL, .ROR], m ∉ [Mnemonic.AND, .EOR, .ORA]) _ h
  have htest : i.mnemonic ∉ [Mnemonic.BIT, .TRB, .TSB] :=
    (by decide : ∀ m ∈ [Mnemonic.ASL, .LSR, .ROL, .ROR], m ∉ [Mnemonic.BIT, .TRB, .TSB]) _ h
  have hafter := operandAfter_effect hmodify hwf
  obtain ⟨hn, hz⟩ := effect_flagsNZ s.width s htest
  exact ⟨exec_of_ready (touched_of_modify s hmodify ▸ hr), hafter, hafter ▸ hn, hafter ▸ hz,
    effect_flagV_of_ne s.width s (List.ne_of_not_mem_cons htest), effect_sameABut s hacc, effect_advanced i s,
    effect_sameRest s.width i s, effect_sameBytesOutside i s⟩

/-- Settles O16: the value is ROL's with nothing shifted in. -/
theorem aslCompletesWithTheValueShiftedLeft : Obligations.AslCompletesWithTheValueShiftedLeft := by
  intro a b i s hi hwf hr
  have hmn : i.mnemonic = .ASL := mnemonic_of_mem rfl hi
  obtain ⟨hx, hafter, hrest⟩ := shift_completes (by simp [hmn]) hwf hr
  refine ⟨_, hx, fun j hj => ?_, by simp [effect_flagC, hmn], hrest⟩
  rw [hafter, valueIn, hmn, newValue, Shifts.asl_eq_rol, Shifts.rol_getLsbD _ _ hj]

/-- Settles O17: the value is ROR's with nothing shifted in. -/
theorem lsrCompletesWithTheValueShiftedRight : Obligations.LsrCompletesWithTheValueShiftedRight := by
  intro a b i s hi hwf hr
  have hmn : i.mnemonic = .LSR := mnemonic_of_mem rfl hi
  obtain ⟨hx, hafter, hrest⟩ := shift_completes (by simp [hmn]) hwf hr
  refine ⟨_, hx, fun j hj => ?_, by simp [effect_flagC, hmn], hrest⟩
  rw [hafter, valueIn, hmn, newValue, Shifts.lsr_eq_ror, Shifts.ror_getLsbD (bits_pos s.width) _ _ hj]

/-- Settles O18: the value is ROL's, with the old c shifted in. -/
theorem rolCompletesWithTheValueRotatedLeft : Obligations.RolCompletesWithTheValueRotatedLeft := by
  intro a b i s hi hwf hr
  have hmn : i.mnemonic = .ROL := mnemonic_of_mem rfl hi
  obtain ⟨hx, hafter, hrest⟩ := shift_completes (by simp [hmn]) hwf hr
  refine ⟨_, hx, fun j hj => ?_, by simp [effect_flagC, hmn], hrest⟩
  rw [hafter, valueIn, hmn, newValue, Shifts.rol_getLsbD _ _ hj]

/-- Settles O19: the value is ROR's, with the old c shifted in. -/
theorem rorCompletesWithTheValueRotatedRight : Obligations.RorCompletesWithTheValueRotatedRight := by
  intro a b i s hi hwf hr
  have hmn : i.mnemonic = .ROR := mnemonic_of_mem rfl hi
  obtain ⟨hx, hafter, hrest⟩ := shift_completes (by simp [hmn]) hwf hr
  refine ⟨_, hx, fun j hj => ?_, by simp [effect_flagC, hmn], hrest⟩
  rw [hafter, valueIn, hmn, newValue, Shifts.ror_getLsbD (bits_pos s.width) _ _ hj]

/-! ### TRB, TSB -/

/-- What the two mnemonics share: all but the bits of the value (R220). -/
theorem test_completes {i : Instr} {s : State} (h : i.mnemonic ∈ [Mnemonic.TRB, .TSB]) (ho : i.operand ≠ .acc)
    (hwf : s.mem.wf = true) (hr : Claims.Ready i s (modifyAddrs s.width i.operand s)) :
    exec i s = .next (effect s.width i s)
      ∧ Claims.operandAfter i.operand s (effect s.width i s) = valueIn s.width i.operand s i.mnemonic
      ∧ ((effect s.width i s).flagZ = true ↔
          ∀ j, j < s.width.bits → (s.a.getLsbD j && (readOp s.width i.operand s).getLsbD j) = false)
      ∧ (effect s.width i s).flagN = s.flagN ∧ (effect s.width i s).flagV = s.flagV
      ∧ (effect s.width i s).flagC = s.flagC ∧ (effect s.width i s).a = s.a
      ∧ Claims.Advanced i s (effect s.width i s) ∧ Claims.SameRest s (effect s.width i s)
      ∧ Claims.SameBytesOutside s (effect s.width i s) (Claims.storedAddrs i s) := by
  have hmodify : i.mnemonic ∉ [Mnemonic.AND, .EOR, .ORA, .BIT] :=
    (by decide : ∀ m ∈ [Mnemonic.TRB, .TSB], m ∉ [Mnemonic.AND, .EOR, .ORA, .BIT]) _ h
  have hacc : i.mnemonic ∉ [Mnemonic.AND, .EOR, .ORA] :=
    (by decide : ∀ m ∈ [Mnemonic.TRB, .TSB], m ∉ [Mnemonic.AND, .EOR, .ORA]) _ h
  have hshift : i.mnemonic ∉ [Mnemonic.ASL, .LSR, .ROL, .ROR] :=
    (by decide : ∀ m ∈ [Mnemonic.TRB, .TSB], m ∉ [Mnemonic.ASL, .LSR, .ROL, .ROR]) _ h
  have hbit : i.mnemonic ≠ .BIT := (by decide : ∀ m ∈ [Mnemonic.TRB, .TSB], m ≠ .BIT) _ h
  obtain ⟨ha, -⟩ := effect_sameABut s hacc
  refine ⟨exec_of_ready (touched_of_modify s hmodify ▸ hr), operandAfter_effect hmodify hwf,
    flagZ_test_iff s (List.mem_cons_of_mem _ h), ?_, effect_flagV_of_ne s.width s hbit,
    effect_flagC_of_not_shift s.width s hshift, ha ho, effect_advanced i s, effect_sameRest s.width i s,
    effect_sameBytesOutside i s⟩
  rw [effect_flagN, if_pos (.inl h)]

/-- Settles O20: the value of TRB, bit by bit. -/
theorem trbCompletesClearingTheSelectedBits : Obligations.TrbCompletesClearingTheSelectedBits := by
  intro a b i s hi hwf hr
  have hmn : i.mnemonic = .TRB := mnemonic_of_mem rfl hi
  have ho : i.operand ≠ .acc := by
    simp only [List.mem_cons, List.not_mem_nil, or_false] at hi
    rcases hi with rfl | rfl <;> simp [Instr.operand]
  obtain ⟨hx, hafter, hrest⟩ := test_completes (by simp [hmn]) ho hwf hr
  refine ⟨_, hx, fun j hj => ?_, hrest⟩
  rw [hafter, valueIn, hmn, newValue, BitVec.getLsbD_and, BitVec.getLsbD_not, acc_getLsbD s _ hj]
  simp only [hj, decide_true, Bool.true_and]

/-- Settles O21: the value of TSB, bit by bit. -/
theorem tsbCompletesSettingTheSelectedBits : Obligations.TsbCompletesSettingTheSelectedBits := by
  intro a b i s hi hwf hr
  have hmn : i.mnemonic = .TSB := mnemonic_of_mem rfl hi
  have ho : i.operand ≠ .acc := by
    simp only [List.mem_cons, List.not_mem_nil, or_false] at hi
    rcases hi with rfl | rfl <;> simp [Instr.operand]
  obtain ⟨hx, hafter, hrest⟩ := test_completes (by simp [hmn]) ho hwf hr
  refine ⟨_, hx, fun j hj => ?_, hrest⟩
  rw [hafter, valueIn, hmn, newValue, BitVec.getLsbD_or, acc_getLsbD s _ hj]

/-! ### z over all 74 -/

/-- z after an instruction does not depend on z before it, which is bit 1 of `P`. -/
theorem effect_flagZ_of_sameBut {s s' : State} (h : SameBut 1 s s') (w : Width) (i : Instr) :
    (effect w i s').flagZ = (effect w i s).flagZ := by
  rw [effect_flagZ, effect_flagZ, valueIn, valueIn, h.acc_eq, h.readOp_eq, h.flagC_eq (by decide) (by decide)]

/-- Settles O30: z by `effect_flagZ` in its two cases, and `SameBut.exec` at bit 1 with z itself equal. -/
theorem zIsWrittenByEveryInstruction : Obligations.ZIsWrittenByEveryInstruction := by
  intro i s t ht
  obtain ⟨-, rfl⟩ := (exec_eq_next i s t).1 ht
  refine ⟨fun hacc => ?_, fun hshift hwf => ?_, fun htest => ?_, fun b => ?_⟩
  · have htest : i.mnemonic ∉ [Mnemonic.BIT, .TRB, .TSB] :=
      (by decide : ∀ m ∈ [Mnemonic.AND, .EOR, .ORA], m ∉ [Mnemonic.BIT, .TRB, .TSB]) _ hacc
    obtain ⟨-, hz⟩ := effect_flagsNZ s.width s htest
    rw [acc_effect s.width s hacc, hz]
  · have hmodify : i.mnemonic ∉ [Mnemonic.AND, .EOR, .ORA, .BIT] :=
      (by decide : ∀ m ∈ [Mnemonic.ASL, .LSR, .ROL, .ROR], m ∉ [Mnemonic.AND, .EOR, .ORA, .BIT]) _ hshift
    have htest : i.mnemonic ∉ [Mnemonic.BIT, .TRB, .TSB] :=
      (by decide : ∀ m ∈ [Mnemonic.ASL, .LSR, .ROL, .ROR], m ∉ [Mnemonic.BIT, .TRB, .TSB]) _ hshift
    obtain ⟨-, hz⟩ := effect_flagsNZ s.width s htest
    rw [operandAfter_effect hmodify hwf, hz]
  · rw [effect_flagZ, if_pos htest, beq_iff_eq]
  · have hs : SameBut 1 s (s.setZ b) := sameBut_setBit s (by decide) b
    obtain ⟨t', ht', hsame⟩ := hs.exec (by decide) (by decide) (by simp) ht
    have hz : t'.flagZ = (effect s.width i s).flagZ := by
      obtain ⟨-, rfl⟩ := (exec_eq_next i (s.setZ b) t').1 ht'
      rw [State.setZ_width, effect_flagZ_of_sameBut hs]
    rw [ht', Noninterference.eq_of_sameBut hsame (by decide) hz]

end Sys2Proof.Families
end

section
/-! The two rotates as inverses of each other, and shifts of a two-word number (spec/45_shift_rotate.md). -/

open Sys2Proof Sys2Proof.Machine Sys2Proof.Flags

namespace Sys2Proof.Shifts

section
variable {n : Nat} (hn : 0 < n)
include hn

/-- ROR undoes ROL: both rotate the operand and the carry together (R190). -/
theorem ror_rol (m : BitVec n) (cin : Bool) : ror (rol m cin).1 (rol m cin).2 = (m, cin) := by
  apply Prod.ext
  · apply BitVec.eq_of_getLsbD_eq
    intro j hj
    rw [ror_getLsbD (by omega) _ _ hj]
    by_cases hlast : j = n - 1
    · rw [if_pos hlast, rol_snd, hlast]
    · rw [if_neg hlast, rol_getLsbD m cin (by omega), if_neg (Nat.succ_ne_zero j), Nat.add_sub_cancel]
  · exact (ror_snd _ _).trans (rol_getLsbD_zero hn m cin)

/-- The carry out of the low word is the carry into the high word: a doubling over both. -/
theorem asl_rol_law (hi lo : BitVec n) :
    (rol hi (asl lo).2).2.toNat * 2 ^ (2 * n) + (rol hi (asl lo).2).1.toNat * 2 ^ n + (asl lo).1.toNat
      = 2 * (hi.toNat * 2 ^ n + lo.toNat) := by
  have hlow := rol_law hn lo false
  rw [← asl_eq_rol, Bool.toNat_false, Nat.add_zero] at hlow
  calc _ = ((rol hi (asl lo).2).2.toNat * 2 ^ n + (rol hi (asl lo).2).1.toNat) * 2 ^ n + (asl lo).1.toNat := by ring
    _ = 2 * (hi.toNat * 2 ^ n) + ((asl lo).2.toNat * 2 ^ n + (asl lo).1.toNat) := by
      rw [rol_law hn]
      ring
    _ = 2 * (hi.toNat * 2 ^ n + lo.toNat) := by
      rw [hlow]
      ring

/-- The carry out of the high word is the carry into the low word: a halving over both. -/
theorem lsr_ror_law (hi lo : BitVec n) :
    hi.toNat * 2 ^ n + lo.toNat
      = 2 * ((lsr hi).1.toNat * 2 ^ n + (ror lo (lsr hi).2).1.toNat) + (ror lo (lsr hi).2).2.toNat := by
  have hhigh := ror_law hn hi false
  rw [← lsr_eq_ror, Bool.toNat_false, Nat.zero_mul, Nat.add_zero] at hhigh
  calc hi.toNat * 2 ^ n + lo.toNat
    _ = 2 * (lsr hi).1.toNat * 2 ^ n + (lo.toNat + (lsr hi).2.toNat * 2 ^ n) := by
      rw [hhigh]
      ring
    _ = _ := by
      rw [ror_law hn]
      ring

end

/-- Settles O26: `ror_rol` and `rol_ror`, at both widths. -/
theorem rotatesUndoEachOther : Obligations.RotatesUndoEachOther :=
  fun w m c => ⟨ror_rol (bits_pos w) m c, rol_ror (bits_pos w) m c⟩

/-- Settles O27: the two-word laws, at both widths. -/
theorem shiftsChainThroughTheCarry : Obligations.ShiftsChainThroughTheCarry :=
  fun w hi lo => ⟨asl_rol_law (bits_pos w) hi lo, lsr_ror_law (bits_pos w) hi lo⟩

end Sys2Proof.Shifts
end

section
/-! Effective addresses and operands as numbers (spec/40_addressing_modes.md): each address computation of the model is
the sum of the spec, modulo the size of the space it is made in. -/

open Sys2Proof Sys2Proof.Machine Sys2Proof.Flags Sys2Proof.Invariant

namespace Sys2Proof.Addresses

/-! ### Concatenation and pointers as numbers -/

theorem append_toNat {m n : Nat} (hi : BitVec m) (lo : BitVec n) : (hi ++ lo).toNat = hi.toNat * 2 ^ n + lo.toNat := by
  rw [BitVec.toNat_append, ← Nat.shiftLeft_add_eq_or_of_lt lo.isLt, Nat.shiftLeft_eq]

/-- `Ptr16(p)` of the 6502 and 65C02: the second byte wraps at 8 bits (R84). -/
theorem ptr16Zp_toNat (s : State) (p : Byte) : (ptr16Zp s p).toNat = Claims.pointerZpAt s p.toNat := by
  have hp : p.toNat < 256 := p.isLt
  have hlow : (p.setWidth 24).toNat = p.toNat := by
    rw [BitVec.toNat_setWidth]
    omega
  have hsucc : (p + 1).toNat = (p.toNat + 1) % 256 := BitVec.toNat_add p 1
  have hhigh : ((p + 1).setWidth 24).toNat = (p.toNat + 1) % 256 := by
    rw [BitVec.toNat_setWidth, hsucc]
    omega
  rw [ptr16Zp, append_toNat, State.readByte, State.readByte, hlow, hhigh, Claims.pointerZpAt, Claims.byteAt,
    Claims.byteAt]
  ring

theorem bank0_succ_toNat (p : Word) : (bank0 (p + 1)).toNat = (p.toNat + 1) % 2 ^ 16 := by
  rw [bank0_toNat, BitVec.toNat_add]
  rfl

/-- `Ptr16(p)` of the 65816: both bytes in bank 0 (R84). -/
theorem ptr16_toNat (s : State) (p : Word) : (ptr16 s p).toNat = Claims.pointer16At s p.toNat := by
  rw [ptr16, append_toNat, State.readByte, State.readByte, bank0_succ_toNat, bank0_toNat, Claims.pointer16At,
    Claims.byteAt, Claims.byteAt]
  ring

/-- `Ptr24(p)` of the 65816: all three bytes in bank 0 (R84). -/
theorem ptr24_toNat (s : State) (p : Word) : (ptr24 s p).toNat = Claims.pointer24At s p.toNat := by
  have hthird : (bank0 (p + 2)).toNat = (p.toNat + 2) % 2 ^ 16 := by
    rw [bank0_toNat, BitVec.toNat_add]
    rfl
  rw [ptr24, append_toNat, append_toNat, State.readByte, State.readByte, State.readByte, hthird, bank0_succ_toNat,
    bank0_toNat, Claims.pointer24At, Claims.pointer16At, Claims.byteAt, Claims.byteAt, Claims.byteAt]
  ring

/-! ### The 6502 and the 65C02 -/

/-- On the 6502 and 65C02 the address is the 16-bit offset (R9). -/
theorem ea0_on8 {s : State} (h : s.cpu ≠ .cpu65816) (m : MemOperand) : (ea s m).ea0.toNat = (ea8 s m).toNat := by
  rw [ea, if_neg h, EA.inBank0, bank0_toNat]

/-- An 8-bit index register as a number. -/
theorem index8_toNat {r : Word} (h : r.toNat < 256) : (index8 r).toNat = r.toNat := by
  rw [index8, BitVec.toNat_setWidth]
  omega

/-- An 8-bit index added to a 16-bit offset wraps at 16 bits. -/
theorem add_index8_toNat (off : Word) {r : Word} (h : r.toNat < 256) :
    (off + (index8 r).setWidth 16).toNat = (off.toNat + r.toNat) % 2 ^ 16 := by
  rw [BitVec.toNat_add, BitVec.toNat_setWidth, index8_toNat h]
  omega

/-- An 8-bit index added to a zero-page address wraps at 8 bits. -/
theorem zp_add_index8_toNat (b : Byte) {r : Word} (h : r.toNat < 256) :
    (b + index8 r).toNat = (b.toNat + r.toNat) % 256 := by
  rw [BitVec.toNat_add, index8_toNat h]

theorem zp_toNat (b : Byte) : (b.setWidth 16 : Word).toNat = b.toNat := by
  have hb : b.toNat < 256 := b.isLt
  rw [BitVec.toNat_setWidth]
  omega

/-- Settles O33: each mode's offset (`ea0_on8`), its sums and its pointer as numbers. -/
theorem effectiveAddressesOnThe6502And65C02 : Obligations.EffectiveAddressesOnThe6502And65C02 := by
  intro s a b hcpu hwf
  obtain ⟨-, hx, hy, -⟩ := (registersWf_iff_on8 hcpu).1 hwf
  simp only [ea0_on8 hcpu, ea8]
  refine ⟨trivial, zp_toNat b, ptr16Zp_toNat s b, add_index8_toNat a hx, add_index8_toNat a hy, ?_, ?_, ?_⟩
  · rw [zp_toNat, zp_add_index8_toNat b hx]
  · rw [ptr16Zp_toNat, zp_add_index8_toNat b hx]
  · rw [add_index8_toNat _ hy, ptr16Zp_toNat]

/-! ### The 65816 -/

theorem dpOffset_toNat (s : State) (b : Byte) : (dpOffset s b).toNat = (s.d.toNat + b.toNat) % 2 ^ 16 := by
  rw [dpOffset, BitVec.toNat_add, zp_toNat]

theorem dpOffset_add_toNat (s : State) (b : Byte) (r : Word) :
    (dpOffset s b + r).toNat = (s.d.toNat + b.toNat + r.toNat) % 2 ^ 16 := by
  rw [BitVec.toNat_add, dpOffset_toNat, Nat.mod_add_mod]

theorem srOffset_toNat (s : State) (b : Byte) : (srOffset s b).toNat = (s.sp.toNat + b.toNat) % 2 ^ 16 := by
  rw [srOffset, BitVec.toNat_add, zp_toNat]

/-- A 16-bit index added to an address wraps at 24 bits. -/
theorem add_index_toNat (a : Addr) (r : Word) : (a + r.setWidth 24).toNat = (a.toNat + r.toNat) % 2 ^ 24 := by
  have hr : r.toNat < 2 ^ 16 := r.isLt
  rw [BitVec.toNat_add, BitVec.toNat_setWidth]
  omega

/-- Settles O34: each mode's sums and pointer as numbers, DBR as the bank where the mode has one. -/
theorem effectiveAddressesOnThe65816 : Obligations.EffectiveAddressesOnThe65816 := by
  intro s a l b hcpu bank dp dpx sr
  simp only [ea, if_pos hcpu, ea816, EA.far, EA.inBank0]
  refine ⟨append_toNat _ _, trivial, ?_, ?_, ?_, ?_, add_index_toNat l s.x, ?_, ?_, ?_, ?_, ?_, ?_, ?_⟩
  · rw [bank0_toNat, dpOffset_toNat]
  · rw [append_toNat, ptr16_toNat, dpOffset_toNat]
  · rw [ptr24_toNat, dpOffset_toNat]
  · rw [add_index_toNat, append_toNat]
  · rw [add_index_toNat, append_toNat]
  · rw [bank0_toNat, dpOffset_add_toNat]
  · rw [append_toNat, ptr16_toNat, dpOffset_add_toNat]
  · rw [add_index_toNat, append_toNat, ptr16_toNat, dpOffset_toNat]
  · rw [add_index_toNat, ptr24_toNat, dpOffset_toNat]
  · rw [bank0_toNat, srOffset_toNat]
  · rw [add_index_toNat, append_toNat, ptr16_toNat, srOffset_toNat]

/-! ### The second byte -/

/-- The two bytes of an operand in bank 0: the second wraps at 16 bits (R83). -/
theorem inBank0_toNat (off : Word) : (EA.inBank0 off).ea0.toNat < 2 ^ 16
    ∧ (EA.inBank0 off).ea1.toNat = ((EA.inBank0 off).ea0.toNat + 1) % 2 ^ 16 := by
  rw [EA.inBank0, bank0_succ_toNat, bank0_toNat]
  exact ⟨off.isLt, rfl⟩

/-- The two bytes of an operand elsewhere: the second wraps at 24 bits (R83). -/
theorem far_toNat (a : Addr) : (EA.far a).ea1.toNat = ((EA.far a).ea0.toNat + 1) % 2 ^ 24 := by
  rw [EA.far, BitVec.toNat_add]
  rfl

/-- Settles O35: the modes whose operand lies in bank 0, the others, and `ea1_ne_ea0`. -/
theorem secondByteOfA16BitOperand : Obligations.SecondByteOfA16BitOperand := by
  intro s m hcpu
  refine ⟨fun hm => ?_, fun hm => ?_, ea1_ne_ea0 s m⟩
  · rw [ea, if_pos hcpu]
    cases m with
    | dp | dpX | sr => exact inBank0_toNat _
    | abs | long | dpInd | dpIndL | absX | longX | absY | dpXInd | dpIndY | dpIndLY | srIndY =>
      simp [Operand.mode] at hm
  · rw [ea, if_pos hcpu]
    cases m with
    | dp | dpX | sr => simp [Operand.mode] at hm
    | abs | long | dpInd | dpIndL | absX | longX | absY | dpXInd | dpIndY | dpIndLY | srIndY => exact far_toNat _

/-! ### Reading the operand -/

/-- A memory operand as a number: little-endian (R41, R81). -/
theorem readMem_toNat (s : State) (e : EA) (w : Width) : (readMem s e w).toNat =
    if w = .w8 then (s.readByte e.ea0).toNat else (s.readByte e.ea1).toNat * 2 ^ 8 + (s.readByte e.ea0).toNat := by
  cases w with
  | w8 => rfl
  | w16 => exact append_toNat _ _

/-- The constant as a number, from the operand bytes it was put together from (R81, R85). -/
theorem readOp_imm_toNat (s : State) (w : Width) (b1 b2 : Byte) : (readOp w (.imm (assembleConst w b1 b2)) s).toNat =
    if w = .w8 then b1.toNat else b2.toNat * 2 ^ 8 + b1.toNat := by
  have h1 : b1.toNat < 2 ^ 8 := b1.isLt
  cases w with
  | w8 =>
    have hword : (b1.setWidth 16 : Word).toNat = b1.toNat := zp_toNat b1
    simp only [readOp, assembleConst, if_true]
    rw [BitVec.toNat_setWidth, hword, Nat.mod_eq_of_lt h1]
  | w16 =>
    have hlt := (assemble16 b1 b2).isLt
    simp only [readOp, assembleConst, BitVec.toNat_setWidth, Nat.mod_eq_of_lt hlt]
    exact append_toNat b2 b1

/-- Settles O32, case by case of the mode; a decoded constant was put together from the bytes after the opcode. -/
theorem readOpReadsTheOperandOfItsMode : Obligations.ReadOpReadsTheOperandOfItsMode := by
  intro s w op b1 b2 k m rest i
  refine ⟨Scope.acc_toNat s w, fun hd hi => ?_, readMem_toNat s (ea s m) w, ?_⟩
  · obtain ⟨hmap, -, -⟩ := Encoding.decode_cons_eq_ok hd
    obtain ⟨-, hasm⟩ := Encoding.instrOf_eq_some hmap
    rw [hi] at hasm
    obtain rfl : k = assembleConst w b1 b2 := hasm
    exact readOp_imm_toNat s w b1 b2
  · cases w <;> rfl

end Sys2Proof.Addresses
end
